-- ==== Sys2Proof/Word.lean ====
section
/-! DEFINITION. The plainest types of the PA24 model: the byte of a host frame or a branch frame, and the
station number. Everything that a test could show wrong about bytes (order, check sums, formats) stands in
Machine/Operands.lean. -/

namespace Sys2Proof

/-- One byte of a host frame, a branch frame or a region record. -/
abbrev Byte := BitVec 8

/-- A station number, 1 to 15 (00_scope.md, STATION NUMBERING). -/
abbrev Station := { n : Nat // 1 ≤ n ∧ n ≤ 15 }

/-- A number as a station number, when it lies in 1 to 15. -/
def stationOf (n : Nat) : Option Station :=
  if h : 1 ≤ n ∧ n ≤ 15 then some ⟨n, h⟩ else none

/-- The position of a station number in a table of fifteen positions (station 1 stands first). -/
def Station.slot (k : Station) : Fin 15 :=
  ⟨k.val - 1, by have := k.property; omega⟩

/-- The station number of a position of a table of fifteen positions. -/
def stationAt (i : Fin 15) : Station :=
  ⟨i.val + 1, by have := i.isLt; omega⟩

end Sys2Proof
end

