-- ==== Sys2Proof/Syntax.lean ====
section
/-! DEFINITION. The commands and events the PA24 takes: one constructor of Instr per row of
spec/opcode_table.json, with the operands its rule gives it. -/

namespace Sys2Proof

/-- One item record of an IMPRINT request: class, weight, zone, service mask (R50, R190). -/
structure Item where
  cls : Byte
  weight : BitVec 16
  zone : Byte
  services : Byte
  deriving DecidableEq, Repr

/-- One band of a TARIFF_CLASS band part: upper weight, base charge, step size, step charge (R190). -/
structure BandFields where
  upper : BitVec 16
  base : BitVec 32
  stepSize : BitVec 16
  stepCharge : BitVec 32
  deriving DecidableEq, Repr

/-- A request of the host as its frame spells it: command and parameter fields (R190). -/
inductive Request where
  | status
  | readAt (region : Byte) (index : BitVec 16)
  | readNext
  | imprint (items : List Item)
  | confirm (id index outcome : Byte)
  | sell (denom : Byte) (count : BitVec 16)
  | stockIn (denom : Byte) (count : BitVec 16)
  | count (denom : Byte) (physical : BitVec 16)
  | consign (station denom : Byte) (count : BitVec 16)
  | voucher (branch : BitVec 16) (station : Byte) (serial amount check : BitVec 32)
  | tariffOpen
  | tariffSurcharge (target : Byte) (values : Vector (BitVec 16) 8)
  | tariffHead (target rounding services bandCount : Byte) (factors : List (BitVec 24))
  | tariffBands (target first : Byte) (bands : List BandFields)
  /-- A TARIFF_CLASS whose section code is not 0, 1 or 2; it declares no length (R181). -/
  | tariffOther (target kind : Byte) (body : List Byte)
  | tariffClose (generation : Byte) (day : BitVec 16)
  | auditClose (q : BitVec 32)
  | setDay (day : BitVec 16) (seconds : BitVec 32)
  | park
  | resume
  | configSet (item index : Byte) (value : BitVec 64)
  | configCommit
  deriving DecidableEq, Repr

/-- The three shares of a roll tick (R112). -/
inductive TickShare where
  | roll        -- the line controller forms and places a ROLL
  | balancer    -- the balancer counts its wait down and tests
  | settlement  -- the settlement unit queries its stranded records
  deriving DecidableEq, Repr

/-- The order the three shares of one roll tick take: R112 fixes none, so each tick carries its order. -/
inductive TickOrder where
  | rollBalancerSettlement
  | rollSettlementBalancer
  | balancerRollSettlement
  | balancerSettlementRoll
  | settlementRollBalancer
  | settlementBalancerRoll
  deriving DecidableEq, Repr, Inhabited

/-- The commands of the host, the events of the line, the timers and the pins: the rows of
spec/opcode_table.json. A supervisor command carries the level of SUPV at the moment the request is taken
(R179, R182); true is asserted. The eleven frame rows (CALL … QUERY) carry no operand: each is the taking,
by its block, of the frame that FRAME_TAKEN handed to that block (R111). -/
inductive Instr where
  -- host port
  | requestOverrun
  | badFrame (frame : List Byte) (supv : Bool)
  | fetch
  | status
  | readAt (region : Byte) (index : BitVec 16)
  | readNext
  -- reservation unit
  | imprint (items : List Item)
  | confirm (id index outcome : Byte)
  -- stock unit
  | sell (denom : Byte) (count : BitVec 16)
  | stockIn (supv : Bool) (denom : Byte) (count : BitVec 16)
  | count (supv : Bool) (denom : Byte) (physical : BitVec 16)
  | consign (supv : Bool) (station denom : Byte) (count : BitVec 16)
  -- account unit
  | voucher (supv : Bool) (branch : BitVec 16) (station : Byte) (serial amount check : BitVec 32)
  -- tariff store
  | tariffOpen (supv : Bool)
  | tariffClassSurcharge (supv : Bool) (target : Byte) (values : Vector (BitVec 16) 8)
  | tariffClassHead (supv : Bool) (target rounding services bandCount : Byte) (factors : List (BitVec 24))
  | tariffClassBands (supv : Bool) (target first : Byte) (bands : List BandFields)
  | tariffClose (supv : Bool) (generation : Byte) (day : BitVec 16)
  -- journal
  | auditClose (supv : Bool) (q : BitVec 32)
  -- timebase and station control
  | setDay (supv : Bool) (day : BitVec 16) (seconds : BitVec 32)
  | park (supv : Bool)
  | resume (supv : Bool)
  | configSet (supv : Bool) (item index : Byte) (value : BitVec 64)
  | configCommit (supv : Bool)
  -- timers and pins of the reservation unit and the timebase
  | deadline (id : Byte)
  | hardLimit (id : Byte)
  | pbusyAsserted
  | pbusyReleased
  | dayAdvance
  -- timers of the line controller, the balancer and the settlement unit
  | rollTick (order : TickOrder)
  | backoffWaitEnd
  | balancerWake
  | offerWindow
  | takeWait
  | answerWait (receiver : Station)
  -- the line
  | attempt
  | arbitrationLost
  | attemptAcknowledged
  | attemptFailed
  | frameArrival (identifier : BitVec 11) (data : List Byte)
  | frameTaken
  | peerAbsence (station : Station)
  -- frames taken by their blocks
  | callFrame
  | takeFrame
  | offerFrame
  | noneFrame
  | giveFrame
  | gotFrame
  | haveFrame
  | voidFrame
  | nohaveFrame
  | deferFrame
  | queryFrame
  -- resets and supplies
  | resetn
  | powerOnReset
  /-- Main power is lost; midRecord says whether a record was being written to the non-volatile store and
  not yet marked complete (R15). -/
  | powerLoss (midRecord : Bool)
  | backupLoss
  -- the end of a request, and the second
  | responseFormed
  | silenceSecond
  deriving DecidableEq, Repr

end Sys2Proof
end

