-- ==== Sys2Proof/WellFormed.lean ====
section
/-! DEFINITION. Which terms of Instr can be commands of a real PA24: those whose lists fit the frames that
carry them. The meanings are total all the same; a term that is not well formed is taken as the frame it
would spell is taken (a request that cannot be carried is a BAD_FRAME). -/

namespace Sys2Proof

/-- The number of parameter bytes of a request (R190). -/
def Request.paramCount : Request → Nat
  | .status | .readNext | .tariffOpen | .park | .resume | .configCommit => 0
  | .readAt _ _ => 3
  | .imprint items => 1 + 5 * items.length
  | .confirm _ _ _ => 3
  | .sell _ _ | .stockIn _ _ | .count _ _ => 3
  | .consign _ _ _ => 4
  | .voucher _ _ _ _ _ => 15
  | .tariffSurcharge _ _ => 18
  | .tariffHead _ _ _ _ factors => 6 + 3 * factors.length
  | .tariffBands _ _ bands => 4 + 12 * bands.length
  | .tariffOther _ _ body => 2 + body.length
  | .tariffClose _ _ => 3
  | .auditClose _ => 4
  | .setDay _ _ => 6
  | .configSet _ _ _ => 10

/-- A request fits its frame: at most 60 parameter bytes (R189), and a section code that declares no length
is none of 0, 1 and 2 (R181). -/
def Request.wellFormed (r : Request) : Bool :=
  r.paramCount ≤ 60 &&
    match r with
    | .tariffOther _ kind _ => 3 ≤ kind.toNat
    | _ => true

/-- Whether a term of Instr can be sent: an IMPRINT of at most 11 items, a head of at most 18 zone factors and
a band part of at most 4 bands fit a request; a request transaction holds at least one byte and its first byte
is not the 0x00 of a fetch (R179); a CAN data frame carries at most 8 bytes (R191). -/
def Instr.wellFormed : Instr → Bool
  | .imprint items => (Request.imprint items).wellFormed
  | .tariffClassHead _ t r sv bc fs => (Request.tariffHead t r sv bc fs).wellFormed
  | .tariffClassBands _ t f bs => (Request.tariffBands t f bs).wellFormed
  | .badFrame frame _ => frame.headD 0 != 0
  | .frameArrival _ data => data.length ≤ 8
  | _ => true

end Sys2Proof
end

