-- ==== Sys2Proof/Decode.lean ====
section
/-! DEFINITION. The host's question about words: spec/opcode_table.json gives no row of this block any bits
(its rows are requests, events and frames, not words of one encoding), so no word spells a command. The byte
formats the data book does give, of requests and branch frames, are read and written in Machine/Operands.lean. -/

namespace Sys2Proof

/-- The command a word spells by the table's bits: none, since no row of the table gives bits. -/
def decodeTableWord (_nbits _w : Nat) : Option Instr := none

end Sys2Proof
end

