-- ==== Sys2Proof/Config.lean ====
section
/-! DEFINITION. The free values of the model: constants without a body, for what the data book leaves open
after a step that goes on, or leaves to the outside. Nothing in Lean can evaluate them, so a statement that holds of the model holds
for every value of them. Each is applied to State.freeDraws, a counter of draws. -/

namespace Sys2Proof.Config

/-- Byte k of free draw n: a reported field that the data book gives a place in a record or a response but
no value (log entry 7). -/
opaque freeByte (n k : Nat) : Byte

/-- ON_HAND as a STOCK_IN, COUNT or CONSIGN of an absent denomination reports it (draw n); the data book states
no value there (log entry 6). -/
opaque absentOnHand (n : Nat) : BitVec 16

/-- Counter k (0 RECEIVED, 1 OVER, 2 SHORT) as a STOCK_IN or COUNT of an absent denomination reports it
(draw n); the data book states no value there (log entry 6). -/
opaque absentCounter (n k : Nat) : BitVec 32

/-- The day number left in the backup domain when it loses its content (R171; log entry 8). -/
opaque lostDay (n : Nat) : BitVec 16

/-- The seconds-of-day left in the backup domain when it loses its content (R171; log entry 8). -/
opaque lostSeconds (n : Nat) : Fin 86400

/-- TIME_LOST as the backup domain holds it after it lost its content (R171; log entry 8). -/
opaque lostTimeLost (n : Nat) : Bool

/-- Whether a PARKING station's image at a reset is formed before the tariff store's reset test of R37;
the data book gives no order between the two (log entry 9). -/
opaque imageBeforeSwitch (n : Nat) : Bool

/-- The order the three shares of a roll tick take when the part's own clock makes the tick ("in no fixed order
among them", R112; log entry 10). -/
opaque tickOrder (n : Nat) : TickOrder

/-- How long the outside holds RESETN low, in milliseconds (R173; log entry 25). -/
opaque resetHeldMs : Nat → Nat

end Sys2Proof.Config
end

