-- ==== Sys2Proof/Machine/State.lean ====
section
/-! DEFINITION. The state of the PA24: every register, table, queue, timer, flag and pin the data book gives
the part, block by block, as plain data, and the part as delivered after its reset. Quantities the data book
gives a range are natural numbers held in that range by the tests of its rules; what it sends, wraps or masks as
bits is a bit vector. -/

namespace Sys2Proof.Machine

/-- Why a step stops with a fault: never. Every row of the table has an effect in every state, and the part
has no address that does not exist, so the type has no constructor. -/
inductive Fault where
  deriving DecidableEq, Repr

/-- Why a step refuses a command. -/
inductive Refusal where
  /-- Raised by exec for a row without a meaning; safe. No row of this model is in that case. -/
  | notModelled (mnemonic : String)
  deriving DecidableEq, Repr

/-! ### Names -/

/-- The station state (R161). -/
inductive StationState where
  | unconfigured | active | parking | parked
  deriving DecidableEq, Repr

/-- The standing (R12). -/
inductive Standing where
  | empty | low | normal | surplus
  deriving DecidableEq, Repr

/-- CONFIRM_MODE (R187). -/
inductive ConfirmMode where
  | immediate | window | extended
  deriving DecidableEq, Repr

/-- The inspection state (R176). -/
inductive Inspection where
  | current | due | lapsed
  deriving DecidableEq, Repr

/-- The response codes of R189, in code order from 0x00. -/
inductive Code where
  | ok | notReady | badFrame | badLength | unknownCommand | badParameter | notSupervisor | wrongState
  | configInvalid | noTariff | classAbsent | weightRange | zoneRange | serviceNotOffered | itemCap
  | insufficientCredit | reservationFull | tooLate | itemClosed | timeLost | inspectionLapsed
  | voucherCheck | voucherDuplicate | voucherSequence | creditCap | journalFull | denomAbsent
  | stockShort | stockCap | peerAbsent | peerBusy | tariffFormat | tariffGeneration | dayBackward
  | notParked | endOfRegion
  deriving DecidableEq, Repr

/-- The eleven alerts (R183), in the bit order of R189. -/
inductive Alert where
  | lowCredit | stranded | reservationExpired | journalNearFull | inspectionDue | inspectionLapsed
  | timeLost | tariffSwitched | peerTariffNewer | lineAlone | stationClash
  deriving DecidableEq, Repr

/-- The regions of R185, in code order from 0. -/
inductive Region where
  | journal | peers | stock | classes | outbound | image | config
  deriving DecidableEq, Repr

/-- A timer that is stopped or has some milliseconds left to run. -/
inductive Timer where
  | stopped
  | running (msLeft : Nat)
  deriving DecidableEq, Repr

/-! ### Account unit and journal -/

/-- The account unit's registers, last accepted voucher serial and LIMIT (R1, R14, R21). -/
structure Account where
  credit : Nat
  held : Nat
  used : Nat
  loaded : Nat
  given : Nat
  taken : Nat
  settledOut : Nat
  reclaimed : Nat
  lastSerial : Nat
  limit : Bool
  deriving DecidableEq, Repr

/-- The kinds of journal entry (R85), in the code order of R192. -/
inductive EntryKind where
  | voucher | giveCredit | receiveCredit | giveStock | receiveStock | settle | restore | stockIn | countAdjust
  deriving DecidableEq, Repr

/-- The direction of a COUNT difference (R77, R85). -/
inductive Direction where
  | overage | shortage
  deriving DecidableEq, Repr

/-- One journal entry (R85). -/
structure Entry where
  seq : Nat
  day : Nat
  kind : EntryKind
  peer : Option Station
  serial : Option Nat
  denom : Option (Fin 16)
  direction : Option Direction
  amount : Nat
  balance : Option Nat
  deriving DecidableEq, Repr

/-- The journal: entries oldest first, and the next sequence number (R84). -/
structure Journal where
  entries : List Entry
  nextSeq : Nat
  deriving DecidableEq, Repr

/-! ### Tariff store -/

/-- How a zone charge is brought to whole cents (R43). -/
inductive Rounding where
  | up | half
  deriving DecidableEq, Repr

/-- One weight band of a class (R25); charges in millicents, weights in grams. -/
structure Band where
  upper : Nat
  base : Nat
  stepSize : Nat
  stepCharge : Nat
  deriving DecidableEq, Repr

/-- A class record (R25); its zone count is the number of its factors, its band count that of its bands. -/
structure ClassRecord where
  rounding : Rounding
  factors : List Nat
  services : Byte
  bands : List Band
  deriving DecidableEq, Repr

/-- The content of a bank: surcharge table and class records (R24, R25). -/
structure BankContent where
  surcharges : Vector (BitVec 16) 8
  classes : Vector (Option ClassRecord) 8
  deriving DecidableEq, Repr

/-- The active bank: its generation, effective day and content (R24, R25). -/
structure Bank where
  generation : Nat
  effectiveDay : Nat
  content : BankContent
  deriving DecidableEq, Repr

/-- The state of the staged bank (R24). -/
inductive StagedState where
  | empty | opened | ready
  deriving DecidableEq, Repr

/-- The class assembly: a head and the bands taken so far (R30, R31); volatile. -/
structure Assembly where
  cls : Fin 8
  rounding : Rounding
  factors : List Nat
  services : Byte
  bandCount : Nat
  bands : List Band
  deriving DecidableEq, Repr

/-- The tariff store (R24). -/
structure TariffStore where
  active : Option Bank
  stagedState : StagedState
  staged : BankContent
  stagedGeneration : Nat
  effectiveDay : Nat
  assembly : Option Assembly
  deriving DecidableEq, Repr

/-! ### Reservation unit -/

/-- The state of an item of an open reservation (R49). -/
inductive ItemState where
  | granted | printed | failed
  deriving DecidableEq, Repr

/-- One item of a reservation: the class it was rated under, its value in cents, its state (R48). -/
structure ResItem where
  cls : Fin 8
  value : Nat
  state : ItemState
  deriving DecidableEq, Repr

/-- The phase of a reservation (R48). -/
inductive Phase where
  | running | waiting
  deriving DecidableEq, Repr

/-- An open reservation (R48); times in milliseconds of the unit's elapsed-time count. -/
structure Reservation where
  id : Nat
  generation : Nat
  grantTime : Nat
  deadline : Nat
  hardLimit : Option Nat
  phase : Phase
  items : List ResItem
  deriving DecidableEq, Repr

/-- The class totals of one class number (R66). -/
structure ClassTotal where
  count : Nat
  value : Nat
  deriving DecidableEq, Repr

/-- The reservation unit (R48, R66). -/
structure ReservationUnit where
  table : List Reservation
  nextId : Nat
  elapsedMs : Nat
  totals : Vector ClassTotal 8
  deriving DecidableEq, Repr

/-! ### Stock unit -/

/-- The counters of one denomination (R68); its face stands in the configuration store. -/
structure Denom where
  onHand : Nat
  received : Nat
  sold : Nat
  inward : Nat
  outward : Nat
  returned : Nat
  overFound : Nat
  shortFound : Nat
  deriving DecidableEq, Repr

/-! ### Line controller -/

/-- The six values of a ROLL (R113), as the frame carries them. -/
structure RollContent where
  state : StationState
  standing : Standing
  spare : BitVec 32
  period : Byte
  generation : Byte
  canGive : Bool
  deriving DecidableEq, Repr

/-- What a GIVE carries: an amount, or a denomination index, a count and a face (R142, R191). -/
inductive GiveBody where
  | credit (amount : BitVec 32)
  | stock (denom : BitVec 4) (count face : BitVec 16)
  deriving DecidableEq, Repr

/-- The five answers to GIVE and QUERY (R144). -/
inductive ReplyKind where
  | got | void | defer | haveIt | nohave
  deriving DecidableEq, Repr

/-- The data of a branch frame, by kind; an addressed kind begins with the addressed station (R101, R191). -/
inductive Payload where
  | give (dest : Byte) (serial : BitVec 16) (body : GiveBody)
  | reply (kind : ReplyKind) (dest : Byte) (serial : BitVec 16)
  | query (dest : Byte) (serial : BitVec 16)
  | take (dest : Byte) (asked : BitVec 32)
  | noneLeft (dest : Byte)
  | offer (dest : Byte) (amount : BitVec 32)
  | call (need : BitVec 32)
  | roll (content : RollContent)
  deriving DecidableEq, Repr

/-- A frame taken off the line: its sender and its data (R101). -/
structure Frame where
  sender : Station
  payload : Payload
  deriving DecidableEq, Repr

/-- A frame on the transmit queue: its data, its attempt count, whether an attempt of it is in progress
(R102), and whether its record no longer needs it, so that it leaves when it is not in progress (R143). -/
structure TxEntry where
  payload : Payload
  attempts : Nat
  inProgress : Bool
  cancelled : Bool
  deriving DecidableEq, Repr

/-- The line state (R100). -/
inductive LineState where
  | up | alone
  deriving DecidableEq, Repr

/-- The presence of a peer-table entry (R114). -/
inductive Presence where
  | unheard | present | absent | self
  deriving DecidableEq, Repr

/-- One entry of the peer table (R114). -/
structure PeerEntry where
  presence : Presence
  silence : Nat
  roll : Option RollContent
  deriving DecidableEq, Repr

/-- The line controller (R100, R114), with the frame it holds and the frames handed to each block (R111). -/
structure LineController where
  state : LineState
  tx : List TxEntry
  rx : List Frame
  runCount : Nat
  attemptDrops : Nat
  queueDrops : Nat
  receiveDrops : Nat
  rollTimer : Timer
  peers : Vector PeerEntry 15
  secondMs : Nat
  holding : Option Frame
  toOfferer : Option Frame
  toBalancer : Option Frame
  toSettlement : Option Frame
  deriving DecidableEq, Repr

/-! ### Balancer -/

/-- The caller state, with what is present only while TAKING (R122). -/
inductive Caller where
  | idle
  | calling
  | taking (chosen : Station) (asked : Nat)
  deriving DecidableEq, Repr

/-- The balancer (R122), with the wakes the account unit has released and it has not yet taken (R13). -/
structure Balancer where
  caller : Caller
  backoffLevel : Nat
  backoffWait : Nat
  offers : List (Station × Nat)
  offerWindow : Timer
  takeWait : Timer
  wakes : Nat
  deriving DecidableEq, Repr

/-! ### Settlement unit -/

/-- What an outbound record holds: an amount of credit, or a count of stamps of one denomination (R140). -/
inductive RecordBody where
  | credit (amount : Nat)
  | stock (denom : Fin 16) (count face : Nat)
  deriving DecidableEq, Repr

/-- The state of an outbound record (R140). -/
inductive RecordState where
  | unsettled | stranded
  deriving DecidableEq, Repr

/-- An outbound record (R140), with its answer wait (R139, volatile). -/
structure OutRecord where
  receiver : Station
  serial : BitVec 16
  body : RecordBody
  state : RecordState
  sends : Nat
  wait : Timer
  deriving DecidableEq, Repr

/-- The verdict of a receipt-table entry (R146). -/
inductive Verdict where
  | received | voided
  deriving DecidableEq, Repr

/-- A receipt-table entry that is not EMPTY (R146). -/
structure Receipt where
  serial : BitVec 16
  verdict : Verdict
  deriving DecidableEq, Repr

/-- The settlement unit (R139). -/
structure SettlementUnit where
  records : List OutRecord
  giveSerial : BitVec 16
  receipts : Vector (Option Receipt) 15
  deriving DecidableEq, Repr

/-! ### Timebase, station control and configuration -/

/-- The timebase and inspection unit (R171); subMs counts the milliseconds of the second that runs. -/
structure Timebase where
  seconds : Nat
  subMs : Nat
  day : Nat
  valid : Bool
  timeLost : Bool
  lastRecorded : Nat
  inspection : Nat
  deriving DecidableEq, Repr

/-- A configuration item that has a value before any write, and whether it has been set (R187). -/
structure Setting where
  value : Nat
  isSet : Bool
  deriving DecidableEq, Repr

/-- The configuration store (R187); VOUCHER_KEY's first byte is the most significant byte of key. -/
structure ConfigStore where
  station : Option Station
  branch : Setting
  key : BitVec 64
  keySet : Bool
  low : Setting
  target : Setting
  high : Setting
  minTransfer : Setting
  rollPeriod : Setting
  confirmMode : ConfirmMode
  confirmModeSet : Bool
  window : Setting
  inspectDays : Setting
  graceDays : Setting
  day : Option Nat
  denomCount : Setting
  faces : Vector (Option Nat) 16
  deriving DecidableEq, Repr

/-- One record of the park image (R167). -/
inductive ImageRecord where
  | header (station day lastSerial generation recordCount : Nat) (check : BitVec 32)
  | registers (credit held used loaded given taken settledOut reclaimed : Nat)
  | denomination (index face : Nat) (counters : Denom) (openStock : Nat)
  | outbound (record : OutRecord)
  deriving DecidableEq, Repr

/-- Station control: station state, configuration and park image, empty when there is none (R161, R167). -/
structure StationControl where
  state : StationState
  config : ConfigStore
  image : List ImageRecord
  deriving DecidableEq, Repr

/-! ### Host port unit -/

/-- The alerts that are stored: the latched ones and LINE_ALONE. The two level alerts, TIME_LOST and
INSPECTION_LAPSED, are read from their conditions (R183). -/
structure AlertStore where
  lowCredit : Bool
  stranded : Bool
  reservationExpired : Bool
  journalNearFull : Bool
  inspectionDue : Bool
  tariffSwitched : Bool
  peerTariffNewer : Bool
  lineAlone : Bool
  stationClash : Bool
  deriving DecidableEq, Repr

/-- The result an owning block hands back for a taken request. STATUS and the generation of SET_DAY are read
when the response is formed (R175, R184). -/
inductive Answer where
  | result (code : Code) (data : List Byte)
  | statusReport
  | setDayReport (day count : Nat) (inspection : Inspection)
  deriving DecidableEq, Repr

/-- The host port unit (R178), with SUPV as last sampled (R179) and the result that awaits its response. The
ALERT output is computed from the alert set. -/
structure HostPort where
  request : List Byte
  response : Option (List Byte)
  overrun : Bool
  cursorRegion : Region
  cursorIndex : Nat
  alerts : AlertStore
  rdy : Bool
  supv : Bool
  answer : Option Answer
  deriving DecidableEq, Repr

/-! ### The part -/

/-- The main supply. -/
inductive Power where
  | on | off
  deriving DecidableEq, Repr

/-- The whole part, its PBUSY input and main supply, an incomplete record in the non-volatile store (R15), the
model's count of free draws, and the queue of commands that wait. -/
structure State where
  host : HostPort
  acct : Account
  tariff : TariffStore
  resv : ReservationUnit
  stock : Vector Denom 16
  journal : Journal
  line : LineController
  bal : Balancer
  settle : SettlementUnit
  time : Timebase
  ctl : StationControl
  pbusy : Bool
  power : Power
  incomplete : Bool
  freeDraws : Nat
  pending : List Instr
  deriving DecidableEq, Repr

/-! ### Values before commit, after commit and after reset -/

/-- Eight registers, serial and LIMIT at 0 (R22). -/
def Account.zero : Account :=
  { credit := 0, held := 0, used := 0, loaded := 0, given := 0, taken := 0, settledOut := 0, reclaimed := 0,
    lastSerial := 0, limit := false }

/-- The empty journal; the next sequence number is 1 (R84). -/
def Journal.empty : Journal := { entries := [], nextSeq := 1 }

/-- All surcharges 0, all classes absent (R24). -/
def BankContent.empty : BankContent :=
  { surcharges := Vector.replicate 8 0, classes := Vector.replicate 8 none }

/-- The tariff store after commit, and before it (R24). -/
def TariffStore.initial : TariffStore :=
  { active := none, stagedState := .empty, staged := BankContent.empty, stagedGeneration := 0, effectiveDay := 0,
    assembly := none }

/-- Class totals of 0 (R66). DESIGN CHOICE: the printed-item counts are 0 before commit too, where no rule gives them; the
value registers are 0 there because their sum is USED, which is 0 (log entry 37). -/
def ClassTotal.zero : ClassTotal := { count := 0, value := 0 }

/-- The reservation unit before commit (R48, R66, R67), its printed-item counts 0 as the model's choice (log entry 37). -/
def ReservationUnit.initial : ReservationUnit :=
  { table := [], nextId := 1, elapsedMs := 0, totals := Vector.replicate 8 ClassTotal.zero }

/-- A denomination with every counter 0 (R68). -/
def Denom.zero : Denom :=
  { onHand := 0, received := 0, sold := 0, inward := 0, outward := 0, returned := 0, overFound := 0, shortFound := 0 }

/-- A peer that has not been heard (R121). -/
def PeerEntry.unheard : PeerEntry := { presence := .unheard, silence := 0, roll := none }

/-- The line controller as it is while UNCONFIGURED (R121). DESIGN CHOICE: its running second begins at 0 ms, here, at commit
and at each reset, where no rule gives the count a value (R117; log entry 42). -/
def LineController.inactive : LineController :=
  { state := .up, tx := [], rx := [], runCount := 0, attemptDrops := 0, queueDrops := 0, receiveDrops := 0,
    rollTimer := .stopped, peers := Vector.replicate 15 PeerEntry.unheard, secondMs := 0, holding := none,
    toOfferer := none, toBalancer := none, toSettlement := none }

/-- The balancer after commit and after each reset (R137). -/
def Balancer.initial : Balancer :=
  { caller := .idle, backoffLevel := 0, backoffWait := 0, offers := [], offerWindow := .stopped,
    takeWait := .stopped, wakes := 0 }

/-- The settlement unit after commit (R159). -/
def SettlementUnit.initial : SettlementUnit :=
  { records := [], giveSerial := 0, receipts := Vector.replicate 15 none }

/-- The timebase as it is held while UNCONFIGURED (R171). The data book gives the validity mark no value there;
the model holds it valid, as every power-on reset leaves it (log entry 3). -/
def Timebase.held : Timebase :=
  { seconds := 0, subMs := 0, day := 0, valid := true, timeLost := false, lastRecorded := 0, inspection := 0 }

/-- An item as it stands before any write: the default value, not set (R187). -/
def Setting.unwritten (v : Nat) : Setting := { value := v, isSet := false }

/-- The configuration store before any write (R187). -/
def ConfigStore.initial : ConfigStore :=
  { station := none, branch := .unwritten 0, key := 0, keySet := false, low := .unwritten 20000,
    target := .unwritten 50000, high := .unwritten 100000, minTransfer := .unwritten 1000,
    rollPeriod := .unwritten 10, confirmMode := .window, confirmModeSet := false, window := .unwritten 8,
    inspectDays := .unwritten 90, graceDays := .unwritten 7, day := none, denomCount := .unwritten 0,
    faces := Vector.replicate 16 none }

/-- No stored alert pending. -/
def AlertStore.clear : AlertStore :=
  { lowCredit := false, stranded := false, reservationExpired := false, journalNearFull := false,
    inspectionDue := false, tariffSwitched := false, peerTariffNewer := false, lineAlone := false,
    stationClash := false }

/-- The host port after a reset with no alert re-latched (R186). SUPV as last sampled has no value in the data
book; the model holds it released (log entry 4). -/
def HostPort.initial : HostPort :=
  { request := [], response := none, overrun := false, cursorRegion := .journal, cursorIndex := 0,
    alerts := AlertStore.clear, rdy := true, supv := false, answer := none }

/-- The part as delivered, after the reset of its first power-on: UNCONFIGURED (R161), every block at its values
before commit, main power on. PBUSY is an input; the model holds it released (log entry 4). The counter of
free draws starts at 0 (log entry 5). -/
def State.reset : State :=
  { host := HostPort.initial, acct := Account.zero, tariff := TariffStore.initial,
    resv := ReservationUnit.initial, stock := Vector.replicate 16 Denom.zero, journal := Journal.empty,
    line := LineController.inactive, bal := Balancer.initial, settle := SettlementUnit.initial,
    time := Timebase.held, ctl := { state := .unconfigured, config := ConfigStore.initial, image := [] },
    pbusy := false, power := .on, incomplete := false, freeDraws := 0, pending := [] }

end Sys2Proof.Machine
end

