-- ==== Sys2Proof/Machine/Flags.lean ====
section
/-! DEFINITION. Conditions and flags: the powered and active part, the standing, the inspection state, the
alert set and the ALERT output, LIMIT, and the drawing of free values. -/

namespace Sys2Proof.Machine

/-! ### Updating one block -/

/-- Change the host port unit alone. -/
def State.onHost (f : HostPort → HostPort) (s : State) : State := { s with host := f s.host }
/-- Change the account unit alone. -/
def State.onAcct (f : Account → Account) (s : State) : State := { s with acct := f s.acct }
/-- Change the tariff store alone. -/
def State.onTariff (f : TariffStore → TariffStore) (s : State) : State := { s with tariff := f s.tariff }
/-- Change the reservation unit alone. -/
def State.onResv (f : ReservationUnit → ReservationUnit) (s : State) : State := { s with resv := f s.resv }
/-- Change the counters of one denomination alone. -/
def State.onDenom (d : Fin 16) (f : Denom → Denom) (s : State) : State :=
  { s with stock := s.stock.set d (f s.stock[d]) }
/-- Change the journal alone. -/
def State.onJournal (f : Journal → Journal) (s : State) : State := { s with journal := f s.journal }
/-- Change the line controller alone. -/
def State.onLine (f : LineController → LineController) (s : State) : State := { s with line := f s.line }
/-- Change the balancer alone. -/
def State.onBal (f : Balancer → Balancer) (s : State) : State := { s with bal := f s.bal }
/-- Change the settlement unit alone. -/
def State.onSettle (f : SettlementUnit → SettlementUnit) (s : State) : State := { s with settle := f s.settle }
/-- Change the timebase and inspection unit alone. -/
def State.onTime (f : Timebase → Timebase) (s : State) : State := { s with time := f s.time }
/-- Change station control alone. -/
def State.onCtl (f : StationControl → StationControl) (s : State) : State := { s with ctl := f s.ctl }

/-! ### Power and configuration -/

/-- Main power is on. -/
def State.powered (s : State) : Bool := s.power == .on

/-- The station is committed: its state is not UNCONFIGURED (R161). -/
def State.committed (s : State) : Bool := s.ctl.state != .unconfigured

/-- The blocks that CONFIG_COMMIT activates take their events: the station is committed and powered (R100,
R122, R139, R162). -/
def State.active (s : State) : Bool := s.powered && s.committed

/-- The committed T (R187). -/
def State.target (s : State) : Nat := s.ctl.config.target.value

/-- The committed M (R187). -/
def State.minTransfer (s : State) : Nat := s.ctl.config.minTransfer.value

/-- A number is this station's own number. -/
def State.ownNumber (s : State) (n : Nat) : Bool :=
  match s.ctl.config.station with
  | some k => k.val == n
  | none => false

/-- A denomination index that exists: below DENOM_COUNT (R68). -/
def State.denomAt (s : State) (i : Nat) : Option (Fin 16) :=
  if h : i < 16 then (if i < s.ctl.config.denomCount.value then some ⟨i, h⟩ else none) else none

/-- The face value of a denomination; every existing denomination of a committed station has one (R188). -/
def State.face (s : State) (d : Fin 16) : Nat := (s.ctl.config.faces[d]).getD 0

/-! ### Standing -/

/-- The band in which a credit lies, judged against L and H (R12). -/
def standingOf (low high credit : Nat) : Standing :=
  if credit = 0 then .empty
  else if credit < low then .low
  else if credit ≤ high then .normal
  else .surplus

/-- The standing of the station's CREDIT (R12). -/
def State.standing (s : State) : Standing :=
  standingOf s.ctl.config.low.value s.ctl.config.high.value s.acct.credit

/-- LOW or EMPTY: the bands whose entry latches LOW_CREDIT (R13). -/
def Standing.short : Standing → Bool
  | .empty | .low => true
  | .normal | .surplus => false

/-- The caller's need: T − CREDIT, or 0 (R123). -/
def State.need (s : State) : Nat := s.target - s.acct.credit

/-- CREDIT − T, taken as 0 when CREDIT is below T (R6). -/
def State.spare (s : State) : Nat := s.acct.credit - s.target

/-! ### Inspection -/

/-- N + G, the greatest inspection count (R171). -/
def State.lapseDay (s : State) : Nat := s.ctl.config.inspectDays.value + s.ctl.config.graceDays.value

/-- The inspection state of the inspection count (R176; log entry 35 on INSPECT_DAYS 1). -/
def State.inspection (s : State) : Inspection :=
  if s.time.inspection < s.ctl.config.inspectDays.value then .current
  else if s.time.inspection < s.lapseDay then .due
  else .lapsed

/-! ### Alerts -/

/-- An alert of the store is pending. -/
def AlertStore.get (a : AlertStore) : Alert → Bool
  | .lowCredit => a.lowCredit
  | .stranded => a.stranded
  | .reservationExpired => a.reservationExpired
  | .journalNearFull => a.journalNearFull
  | .inspectionDue => a.inspectionDue
  | .tariffSwitched => a.tariffSwitched
  | .peerTariffNewer => a.peerTariffNewer
  | .lineAlone => a.lineAlone
  | .stationClash => a.stationClash
  | .inspectionLapsed | .timeLost => false

/-- Latch an alert; the two level alerts need no latch (R183). -/
def AlertStore.latch (a : AlertStore) : Alert → AlertStore
  | .lowCredit => { a with lowCredit := true }
  | .stranded => { a with stranded := true }
  | .reservationExpired => { a with reservationExpired := true }
  | .journalNearFull => { a with journalNearFull := true }
  | .inspectionDue => { a with inspectionDue := true }
  | .tariffSwitched => { a with tariffSwitched := true }
  | .peerTariffNewer => { a with peerTariffNewer := true }
  | .lineAlone => { a with lineAlone := true }
  | .stationClash => { a with stationClash := true }
  | .inspectionLapsed | .timeLost => a

/-- Latch an alert in the host port's alert set. -/
def State.latch (a : Alert) (s : State) : State :=
  s.onHost fun h => { h with alerts := h.alerts.latch a }

/-- Latch an alert when a condition holds. -/
def State.latchIf (b : Bool) (a : Alert) (s : State) : State := if b then s.latch a else s

/-- An alert is pending: a stored one as stored, TIME_LOST while the day is lost (R174), INSPECTION_LAPSED while
the inspection is LAPSED (R176). -/
def State.alertPending (s : State) : Alert → Bool
  | .timeLost => s.time.timeLost
  | .inspectionLapsed => s.inspection == .lapsed
  | a => s.host.alerts.get a

/-- The eleven alerts in the bit order of R189, bit 0 first. -/
def allAlerts : List Alert :=
  [.lowCredit, .stranded, .reservationExpired, .journalNearFull, .inspectionDue, .inspectionLapsed, .timeLost,
   .tariffSwitched, .peerTariffNewer, .lineAlone, .stationClash]

/-- The number whose bits, bit 0 first, are the given flags. -/
def bitsNumber : List Bool → Nat
  | [] => 0
  | b :: bs => b.toNat + 2 * bitsNumber bs

/-- The alert set as STATUS reports it (R189). DESIGN CHOICE: bits 11 to 15 read 0 (log entry 43). -/
def State.alertSet (s : State) : Nat := bitsNumber (allAlerts.map s.alertPending)

/-- The ALERT output: asserted while the alert set holds at least one alert (R183). -/
def State.alertOutput (s : State) : Bool := allAlerts.any s.alertPending

/-- A STATUS clears every latched alert, and LINE_ALONE when the line state is UP (R183). -/
def State.clearReported (s : State) : State :=
  s.onHost fun h =>
    { h with alerts := { AlertStore.clear with lineAlone := h.alerts.lineAlone && s.line.state == .alone } }

/-- Set LIMIT (R14). -/
def State.setLimit (s : State) : State := s.onAcct fun a => { a with limit := true }

/-! ### Free values -/

/-- Count one free draw. -/
def State.drawn (s : State) : State := { s with freeDraws := s.freeDraws + 1 }

/-- The k bytes of the next free draw. -/
def State.freeBytes (s : State) (k : Nat) : List Byte :=
  (List.range k).map (Config.freeByte s.freeDraws)

end Sys2Proof.Machine
end

