-- ==== Sys2Proof/Machine/Operands.lean ====
section
/-! DEFINITION. Bytes: field order, check sums, the CRC-32, and every layout of the data book: request and
response frames (R189, R190), branch frames (R101, R191) and region records (R192). -/

namespace Sys2Proof.Machine

/-! ### Fields -/

/-- A number as k bytes, most significant first (chapter 10, FORMATS). -/
def beBytes : Nat → Nat → List Byte
  | 0, _ => []
  | k + 1, n => BitVec.ofNat 8 (n / 256 ^ k) :: beBytes k n

/-- The number that bytes spell, most significant first. -/
def natOfBytes (bs : List Byte) : Nat := bs.foldl (fun n b => 256 * n + b.toNat) 0

/-- Split bytes into fields of the given widths; none unless they fill the bytes exactly. -/
def fieldsOf : List Nat → List Byte → Option (List Nat)
  | [], [] => some []
  | [], _ :: _ => none
  | w :: ws, bs =>
    if bs.length < w then none
    else (fieldsOf ws (bs.drop w)).map (natOfBytes (bs.take w) :: ·)

/-- Split bytes into n groups of k bytes each. -/
def groupsOf (k : Nat) : Nat → List Byte → List (List Byte)
  | 0, _ => []
  | n + 1, bs => bs.take k :: groupsOf k n (bs.drop k)

/-- A flag as one byte. DESIGN CHOICE: 1 for set and 0 for clear; R190 and R192 give the flag its one byte and not its
values (log entry 36). -/
def flagByte (b : Bool) : Byte := if b then 1 else 0

/-- The sum of bytes, modulo 256. -/
def byteSum (bs : List Byte) : Byte := bs.foldl (· + ·) 0

/-! ### CRC-32 (R16) -/

/-- One place of the shift: combined with 0xEDB88320 when the bit shifted out is 1. -/
def crcShift (r : BitVec 32) : BitVec 32 :=
  if r.getLsbD 0 then (r >>> 1) ^^^ 0xEDB88320#32 else r >>> 1

/-- One message byte: combined into the low eight bits, then eight shifts. -/
def crcByte (r : BitVec 32) (b : Byte) : BitVec 32 :=
  crcShift (crcShift (crcShift (crcShift (crcShift (crcShift (crcShift (crcShift (r ^^^ b.setWidth 32))))))))

/-- The CRC-32 of a message (R16). -/
def crc32 (message : List Byte) : BitVec 32 := ~~~ message.foldl crcByte 0xFFFFFFFF#32

/-- The check of a voucher: the CRC-32 of key, branch, station, serial and amount, 19 bytes (R16). -/
def voucherCheck (key : BitVec 64) (branch : BitVec 16) (station : Byte) (serial amount : BitVec 32) : BitVec 32 :=
  crc32 (beBytes 8 key.toNat ++ beBytes 2 branch.toNat ++ beBytes 1 station.toNat ++
    beBytes 4 serial.toNat ++ beBytes 4 amount.toNat)

/-! ### Codes (R189) -/

/-- The number of a response code. -/
def Code.number : Code → Nat
  | .ok => 0x00 | .notReady => 0x01 | .badFrame => 0x02 | .badLength => 0x03 | .unknownCommand => 0x04
  | .badParameter => 0x05 | .notSupervisor => 0x06 | .wrongState => 0x07 | .configInvalid => 0x08
  | .noTariff => 0x09 | .classAbsent => 0x0A | .weightRange => 0x0B | .zoneRange => 0x0C
  | .serviceNotOffered => 0x0D | .itemCap => 0x0E | .insufficientCredit => 0x0F | .reservationFull => 0x10
  | .tooLate => 0x11 | .itemClosed => 0x12 | .timeLost => 0x13 | .inspectionLapsed => 0x14
  | .voucherCheck => 0x15 | .voucherDuplicate => 0x16 | .voucherSequence => 0x17 | .creditCap => 0x18
  | .journalFull => 0x19 | .denomAbsent => 0x1A | .stockShort => 0x1B | .stockCap => 0x1C | .peerAbsent => 0x1D
  | .peerBusy => 0x1E | .tariffFormat => 0x1F | .tariffGeneration => 0x20 | .dayBackward => 0x21
  | .notParked => 0x22 | .endOfRegion => 0x23

/-- Station state code. -/
def StationState.code : StationState → Byte
  | .unconfigured => 0 | .active => 1 | .parking => 2 | .parked => 3

/-- Standing code. -/
def Standing.code : Standing → Byte
  | .empty => 0 | .low => 1 | .normal => 2 | .surplus => 3

/-- Staged state code. -/
def StagedState.code : StagedState → Byte
  | .empty => 0 | .opened => 1 | .ready => 2

/-- Item state code. -/
def ItemState.code : ItemState → Byte
  | .granted => 0 | .printed => 1 | .failed => 2

/-- Inspection state code. -/
def Inspection.code : Inspection → Byte
  | .current => 0 | .due => 1 | .lapsed => 2

/-- CONFIRM_MODE code (R187). -/
def ConfirmMode.number : ConfirmMode → Nat
  | .immediate => 0 | .window => 1 | .extended => 2

/-- Journal entry kind code (R192). -/
def EntryKind.code : EntryKind → Byte
  | .voucher => 0 | .giveCredit => 1 | .receiveCredit => 2 | .giveStock => 3 | .receiveStock => 4 | .settle => 5
  | .restore => 6 | .stockIn => 7 | .countAdjust => 8

/-- Presence code (R192). -/
def Presence.code : Presence → Byte
  | .unheard => 0 | .present => 1 | .absent => 2 | .self => 3

/-- Region code (R185). -/
def Region.code : Region → Byte
  | .journal => 0 | .peers => 1 | .stock => 2 | .classes => 3 | .outbound => 4 | .image => 5 | .config => 6

/-- The region of a code, none above 6 (R185). -/
def regionOf (code : Nat) : Option Region :=
  [Region.journal, .peers, .stock, .classes, .outbound, .image, .config][code]?

/-! ### Request frames (R189, R190) -/

/-- The command code of a request (R190). -/
def requestCode : Request → Byte
  | .status => 0x01 | .readAt _ _ => 0x02 | .readNext => 0x03
  | .imprint _ => 0x10 | .confirm _ _ _ => 0x11
  | .sell _ _ => 0x20 | .stockIn _ _ => 0x21 | .count _ _ => 0x22 | .consign _ _ _ => 0x23
  | .voucher _ _ _ _ _ => 0x30
  | .tariffOpen => 0x40 | .tariffSurcharge _ _ => 0x41 | .tariffHead _ _ _ _ _ => 0x41
  | .tariffBands _ _ _ => 0x41 | .tariffOther _ _ _ => 0x41 | .tariffClose _ _ => 0x42
  | .auditClose _ => 0x50 | .setDay _ _ => 0x51
  | .park => 0x60 | .resume => 0x61
  | .configSet _ _ _ => 0x70 | .configCommit => 0x71

/-- The bytes of one item record (R190). -/
def itemBytes (i : Item) : List Byte := i.cls :: beBytes 2 i.weight.toNat ++ [i.zone, i.services]

/-- The bytes of one band of a band part (R190). -/
def bandBytes (b : BandFields) : List Byte :=
  beBytes 2 b.upper.toNat ++ beBytes 4 b.base.toNat ++ beBytes 2 b.stepSize.toNat ++ beBytes 4 b.stepCharge.toNat

/-- The parameter bytes of a request (R190). -/
def requestParams : Request → List Byte
  | .status | .readNext | .tariffOpen | .park | .resume | .configCommit => []
  | .readAt region index => region :: beBytes 2 index.toNat
  | .imprint items => BitVec.ofNat 8 items.length :: items.flatMap itemBytes
  | .confirm id index outcome => [id, index, outcome]
  | .sell d c | .stockIn d c | .count d c => d :: beBytes 2 c.toNat
  | .consign k d c => k :: d :: beBytes 2 c.toNat
  | .voucher branch k serial amount check =>
    beBytes 2 branch.toNat ++ [k] ++ beBytes 4 serial.toNat ++ beBytes 4 amount.toNat ++ beBytes 4 check.toNat
  | .tariffSurcharge t vs => t :: 0 :: vs.toList.flatMap (fun v => beBytes 2 v.toNat)
  | .tariffHead t r services bandCount fs =>
    t :: 1 :: r :: BitVec.ofNat 8 fs.length :: services :: bandCount :: fs.flatMap (fun f => beBytes 3 f.toNat)
  | .tariffBands t first bs => t :: 2 :: first :: BitVec.ofNat 8 bs.length :: bs.flatMap bandBytes
  | .tariffOther t kind body => t :: kind :: body
  | .tariffClose g d => g :: beBytes 2 d.toNat
  | .auditClose q => beBytes 4 q.toNat
  | .setDay d sec => beBytes 2 d.toNat ++ beBytes 4 sec.toNat
  | .configSet item index value => item :: index :: beBytes 8 value.toNat

/-- Close a frame with the check byte that makes the sum of all its bytes 0 modulo 256 (R189). -/
def withCheck (bs : List Byte) : List Byte := bs ++ [0 - byteSum bs]

/-- The frame of a request: code, length, parameters, check (R189). -/
def requestFrame (r : Request) : List Byte :=
  withCheck (requestCode r :: BitVec.ofNat 8 (requestParams r).length :: requestParams r)

/-- An item record read from its five bytes. -/
def itemOfBytes (bs : List Byte) : Item :=
  { cls := bs.getD 0 0, weight := BitVec.ofNat 16 (natOfBytes [bs.getD 1 0, bs.getD 2 0]), zone := bs.getD 3 0,
    services := bs.getD 4 0 }

/-- A band read from its twelve bytes. -/
def bandOfBytes (bs : List Byte) : BandFields :=
  { upper := BitVec.ofNat 16 (natOfBytes (bs.take 2)), base := BitVec.ofNat 32 (natOfBytes ((bs.drop 2).take 4)),
    stepSize := BitVec.ofNat 16 (natOfBytes ((bs.drop 6).take 2)),
    stepCharge := BitVec.ofNat 32 (natOfBytes ((bs.drop 8).take 4)) }

/-- The parameters of a TARIFF_CLASS: the length its part declares, or BAD_LENGTH (R181, R190). -/
def parseTariffClass : List Byte → Except Code Request
  | target :: kind :: body =>
    if kind = 0 then
      if body.length = 16 then
        .ok (.tariffSurcharge target
          (Vector.ofFn fun i => BitVec.ofNat 16 (natOfBytes ((body.drop (2 * i.val)).take 2))))
      else .error .badLength
    else if kind = 1 then
      match body with
      | rounding :: zones :: services :: bandCount :: rest =>
        if rest.length = 3 * zones.toNat then
          .ok (.tariffHead target rounding services bandCount
            ((groupsOf 3 zones.toNat rest).map fun g => BitVec.ofNat 24 (natOfBytes g)))
        else .error .badLength
      | _ => .error .badLength
    else if kind = 2 then
      match body with
      | first :: k :: rest =>
        if rest.length = 12 * k.toNat then
          .ok (.tariffBands target first ((groupsOf 12 k.toNat rest).map bandOfBytes))
        else .error .badLength
      | _ => .error .badLength
    else .ok (.tariffOther target kind body)
  | _ => .error .badLength

/-- The request a command code and parameters spell: UNKNOWN_COMMAND for a code R190 does not list, BAD_LENGTH
for parameters of another length (checks 3 and 4 of R181). -/
def parseParams (code : Byte) (ps : List Byte) : Except Code Request :=
  if code = 0x01 then match ps with | [] => .ok .status | _ => .error .badLength
  else if code = 0x02 then
    match fieldsOf [1, 2] ps with
    | some [r, i] => .ok (.readAt (.ofNat 8 r) (.ofNat 16 i))
    | _ => .error .badLength
  else if code = 0x03 then match ps with | [] => .ok .readNext | _ => .error .badLength
  else if code = 0x10 then
    match ps with
    | c :: rest =>
      if rest.length = 5 * c.toNat then .ok (.imprint ((groupsOf 5 c.toNat rest).map itemOfBytes))
      else .error .badLength
    | [] => .error .badLength
  else if code = 0x11 then
    match ps with | [id, index, outcome] => .ok (.confirm id index outcome) | _ => .error .badLength
  else if code = 0x20 then
    match fieldsOf [1, 2] ps with
    | some [d, c] => .ok (.sell (.ofNat 8 d) (.ofNat 16 c))
    | _ => .error .badLength
  else if code = 0x21 then
    match fieldsOf [1, 2] ps with
    | some [d, c] => .ok (.stockIn (.ofNat 8 d) (.ofNat 16 c))
    | _ => .error .badLength
  else if code = 0x22 then
    match fieldsOf [1, 2] ps with
    | some [d, c] => .ok (.count (.ofNat 8 d) (.ofNat 16 c))
    | _ => .error .badLength
  else if code = 0x23 then
    match fieldsOf [1, 1, 2] ps with
    | some [k, d, c] => .ok (.consign (.ofNat 8 k) (.ofNat 8 d) (.ofNat 16 c))
    | _ => .error .badLength
  else if code = 0x30 then
    match fieldsOf [2, 1, 4, 4, 4] ps with
    | some [b, k, n, a, c] => .ok (.voucher (.ofNat 16 b) (.ofNat 8 k) (.ofNat 32 n) (.ofNat 32 a) (.ofNat 32 c))
    | _ => .error .badLength
  else if code = 0x40 then match ps with | [] => .ok .tariffOpen | _ => .error .badLength
  else if code = 0x41 then parseTariffClass ps
  else if code = 0x42 then
    match fieldsOf [1, 2] ps with
    | some [g, d] => .ok (.tariffClose (.ofNat 8 g) (.ofNat 16 d))
    | _ => .error .badLength
  else if code = 0x50 then
    match fieldsOf [4] ps with | some [q] => .ok (.auditClose (.ofNat 32 q)) | _ => .error .badLength
  else if code = 0x51 then
    match fieldsOf [2, 4] ps with
    | some [d, sec] => .ok (.setDay (.ofNat 16 d) (.ofNat 32 sec))
    | _ => .error .badLength
  else if code = 0x60 then match ps with | [] => .ok .park | _ => .error .badLength
  else if code = 0x61 then match ps with | [] => .ok .resume | _ => .error .badLength
  else if code = 0x70 then
    match fieldsOf [1, 1, 8] ps with
    | some [item, index, v] => .ok (.configSet (.ofNat 8 item) (.ofNat 8 index) (.ofNat 64 v))
    | _ => .error .badLength
  else if code = 0x71 then match ps with | [] => .ok .configCommit | _ => .error .badLength
  else .error .unknownCommand

/-- The host port's checks of a taken request, in the order of R181: the request it spells, or the answer. -/
def checkFrame (frame : List Byte) : Except Code Request :=
  match frame with
  | code :: len :: rest =>
    if len.toNat ≤ 60 ∧ frame.length = len.toNat + 3 then
      if byteSum frame = 0 then parseParams code rest.dropLast else .error .badFrame
    else .error .badFrame
  | _ => .error .badFrame

/-- A response frame: status byte with the OVERRUN flag in its top bit, length, data, check (R189). -/
def responseFrame (code : Code) (overrun : Bool) (data : List Byte) : List Byte :=
  withCheck (BitVec.ofNat 8 (code.number + if overrun then 128 else 0) :: BitVec.ofNat 8 data.length :: data)

/-! ### Branch frames (R101, R191) -/

/-- The kind code of a branch frame (R101). -/
def Payload.kind : Payload → Nat
  | .give _ _ _ => 1
  | .reply .got _ _ => 2
  | .reply .void _ _ => 3
  | .reply .defer _ _ => 4
  | .reply .haveIt _ _ => 5
  | .reply .nohave _ _ => 6
  | .query _ _ => 7
  | .take _ _ => 8
  | .noneLeft _ => 9
  | .offer _ _ => 10
  | .call _ => 11
  | .roll _ => 12

/-- The identifier of a frame: its kind code times 16 plus its sender (R101). -/
def Payload.identifier (p : Payload) (sender : Station) : BitVec 11 := BitVec.ofNat 11 (16 * p.kind + sender.val)

/-- The addressed station of a frame; a CALL and a ROLL address every station (R101). -/
def Payload.dest : Payload → Option Byte
  | .give d _ _ | .reply _ d _ | .query d _ | .take d _ | .noneLeft d | .offer d _ => some d
  | .call _ | .roll _ => none

/-- The data bytes of a frame (R191). -/
def Payload.data : Payload → List Byte
  | .give d n (.credit a) => d :: beBytes 2 n.toNat ++ [0] ++ beBytes 4 a.toNat
  | .give d n (.stock i c f) =>
    d :: beBytes 2 n.toNat ++ [BitVec.ofNat 8 (128 + i.toNat)] ++ beBytes 2 c.toNat ++ beBytes 2 f.toNat
  | .reply _ d n => d :: beBytes 2 n.toNat
  | .query d n => d :: beBytes 2 n.toNat
  | .take d a => d :: beBytes 4 a.toNat
  | .noneLeft d => [d]
  | .offer d a => d :: beBytes 4 a.toNat
  | .call n => beBytes 4 n.toNat
  | .roll r =>
    BitVec.ofNat 8 (r.state.code.toNat + if r.canGive then 128 else 0) :: r.standing.code ::
      beBytes 4 r.spare.toNat ++ [r.period, r.generation]

/-- The station state a ROLL announces, from its code 1 to 3 (R191). -/
def announcedState (code : Nat) : Option StationState :=
  if code = 1 then some .active else if code = 2 then some .parking else if code = 3 then some .parked else none

/-- The standing a ROLL announces, from its code 0 to 3 (R191). -/
def announcedStanding (code : Nat) : Option Standing :=
  if code = 0 then some .empty else if code = 1 then some .low else if code = 2 then some .normal
  else if code = 3 then some .surplus else none

/-- The payload that data bytes spell for a kind code; none when R191 does not admit them (test 1 of R110). In
the kind byte of a stock GIVE only the top bit and the low four bits are read. -/
def parsePayload (kind : Nat) (data : List Byte) : Option Payload :=
  let serial (hi lo : Byte) : BitVec 16 := BitVec.ofNat 16 (natOfBytes [hi, lo])
  let word (a b c d : Byte) : BitVec 32 := BitVec.ofNat 32 (natOfBytes [a, b, c, d])
  match kind, data with
  | 1, [d, n1, n0, k, a, b, c, e] =>
    if k.getLsbD 7 then some (.give d (serial n1 n0) (.stock (k.setWidth 4) (serial a b) (serial c e)))
    else some (.give d (serial n1 n0) (.credit (word a b c e)))
  | 2, [d, n1, n0] => some (.reply .got d (serial n1 n0))
  | 3, [d, n1, n0] => some (.reply .void d (serial n1 n0))
  | 4, [d, n1, n0] => some (.reply .defer d (serial n1 n0))
  | 5, [d, n1, n0] => some (.reply .haveIt d (serial n1 n0))
  | 6, [d, n1, n0] => some (.reply .nohave d (serial n1 n0))
  | 7, [d, n1, n0] => some (.query d (serial n1 n0))
  | 8, [d, a, b, c, e] => some (.take d (word a b c e))
  | 9, [d] => some (.noneLeft d)
  | 10, [d, a, b, c, e] => some (.offer d (word a b c e))
  | 11, [a, b, c, e] => some (.call (word a b c e))
  | 12, [st, sd, a, b, c, e, period, generation] =>
    match announcedState (st.toNat % 128), announcedStanding sd.toNat with
    | some state, some standing =>
      some (.roll { state := state, standing := standing, spare := word a b c e, period := period,
                    generation := generation, canGive := st.getLsbD 7 })
    | _, _ => none
  | _, _ => none

/-- The frame an identifier and data bytes spell; none when test 1 of R110 fails. -/
def parseFrame (identifier : BitVec 11) (data : List Byte) : Option Frame :=
  match stationOf (identifier.toNat % 16), parsePayload (identifier.toNat / 16) data with
  | some sender, some payload => some { sender := sender, payload := payload }
  | _, _ => none

/-! ### Region records (R192) -/

/-- An absent field reads 0. -/
def optByte (o : Option Nat) : Byte := BitVec.ofNat 8 (o.getD 0)

/-- The presence byte of a JOURNAL record (R192). DESIGN CHOICE: bits 5 to 7 read 0 (log entry 43). -/
def entryPresence (e : Entry) : Byte :=
  BitVec.ofNat 8 (bitsNumber [e.peer.isSome, e.serial.isSome, e.denom.isSome, e.balance.isSome,
    e.direction == some .shortage])

/-- A JOURNAL record, 22 bytes. -/
def entryRecord (e : Entry) : List Byte :=
  beBytes 4 e.seq ++ beBytes 2 e.day ++ [e.kind.code, entryPresence e, optByte (e.peer.map (·.val))] ++
    beBytes 4 (e.serial.getD 0) ++ [optByte (e.denom.map (·.val))] ++ beBytes 4 e.amount ++
    beBytes 4 (e.balance.getD 0)

/-- The nine bytes of a PEERS record that give a roll content. -/
def rollBytes (r : RollContent) : List Byte :=
  [r.state.code, r.standing.code] ++ beBytes 4 r.spare.toNat ++ [r.period, r.generation, flagByte r.canGive]

/-- A PEERS record, 14 bytes. Without roll content the data book gives the nine bytes after the flag no value:
they are free (log entry 7). -/
def peerRecord (free : List Byte) (k : Station) (e : PeerEntry) : List Byte :=
  [BitVec.ofNat 8 k.val, e.presence.code] ++ beBytes 2 e.silence ++ [flagByte e.roll.isSome] ++
    (match e.roll with
     | some r => rollBytes r
     | none => free)

/-- A STOCK record, 35 bytes. -/
def stockRecord (index face : Nat) (d : Denom) (openStock : Nat) : List Byte :=
  beBytes 1 index ++ beBytes 2 face ++ beBytes 2 d.onHand ++ beBytes 4 d.received ++ beBytes 4 d.sold ++
    beBytes 4 d.inward ++ beBytes 4 d.outward ++ beBytes 4 d.returned ++ beBytes 4 d.overFound ++ beBytes 4 d.shortFound ++
    beBytes 2 openStock

/-- A CLASSES record, 11 bytes. -/
def classRecordBytes (cls : Nat) (t : ClassTotal) : List Byte := beBytes 1 cls ++ beBytes 4 t.count ++ beBytes 6 t.value

/-- An OUTBOUND record, 15 bytes; fields of the other kind read 0. -/
def outboundRecord (r : OutRecord) : List Byte :=
  let state : Byte := match r.state with | .unsettled => 0 | .stranded => 1
  beBytes 1 r.receiver.val ++ beBytes 2 r.serial.toNat ++
    (match r.body with
     | .credit a => [0, state] ++ beBytes 1 r.sends ++ beBytes 4 a ++ beBytes 1 0 ++ beBytes 2 0 ++ beBytes 2 0
     | .stock d c f =>
       [1, state] ++ beBytes 1 r.sends ++ beBytes 4 0 ++ beBytes 1 d.val ++ beBytes 2 c ++ beBytes 2 f)

/-- An IMAGE record: 13 bytes at position 0, 44 at position 1, then as STOCK and as OUTBOUND. -/
def imageRecordBytes : ImageRecord → List Byte
  | .header k day serial generation n check =>
    beBytes 1 k ++ beBytes 2 day ++ beBytes 4 serial ++ beBytes 1 generation ++ beBytes 1 n ++ beBytes 4 check.toNat
  | .registers credit held used loaded given taken settledOut reclaimed =>
    beBytes 4 credit ++ beBytes 4 held ++ beBytes 6 used ++ beBytes 6 loaded ++ beBytes 6 given ++ beBytes 6 taken ++
      beBytes 6 settledOut ++ beBytes 6 reclaimed
  | .denomination i face d openStock => stockRecord i face d openStock
  | .outbound r => outboundRecord r

/-! ### Configuration items (R187) -/

/-- A configuration item: whether it is set, and its value as the eight-byte field, none for an item that has
no value before it is set. None for a code or an index that R187 does not list. -/
def ConfigStore.item (c : ConfigStore) (item index : Nat) : Option (Bool × Option (BitVec 64)) :=
  let number (x : Setting) : Bool × Option (BitVec 64) := (x.isSet, some (BitVec.ofNat 64 x.value))
  let optional (x : Option Nat) : Bool × Option (BitVec 64) := (x.isSome, x.map (BitVec.ofNat 64))
  if h : item = 14 ∧ index < 16 then some (optional (c.faces[index]'h.2))
  else if index ≠ 0 then none
  else match item with
    | 0 => some (optional (c.station.map (·.val)))
    | 1 => some (number c.branch)
    | 2 => some (c.keySet, some c.key)
    | 3 => some (number c.low)
    | 4 => some (number c.target)
    | 5 => some (number c.high)
    | 6 => some (number c.minTransfer)
    | 7 => some (number c.rollPeriod)
    | 8 => some (c.confirmModeSet, some (BitVec.ofNat 64 c.confirmMode.number))
    | 9 => some (number c.window)
    | 10 => some (number c.inspectDays)
    | 11 => some (number c.graceDays)
    | 12 => some (optional c.day)
    | 13 => some (number c.denomCount)
    | _ => none

/-- Item, index, set flag and value, as a CONFIG record (11 bytes, R192) and as the response of CONFIG_SET (R190)
carry them. The data book gives an item that is not set and has no default no value: its eight bytes are free
(log entry 7). -/
def configBytes (free : List Byte) (item index : Nat) (set : Bool) (value : Option (BitVec 64)) : List Byte :=
  beBytes 1 item ++ beBytes 1 index ++ [flagByte set] ++
    (match value with
     | some v => beBytes 8 v.toNat
     | none => free)

end Sys2Proof.Machine
end

