-- ==== Sys2Proof/Machine/Ops.lean ====
section
/-! DEFINITION. The shared operations of the blocks: journal appends and space, CREDIT and its standing, the
transmit queue, outbound records, reservations' closures, the tariff switch, the inspection count, the park image
and the handing on of frames. -/

namespace Sys2Proof.Machine

/-! ### Sums over the outbound list -/

/-- The credit an outbound record carries. -/
def OutRecord.credit (r : OutRecord) : Nat :=
  match r.body with
  | .credit a => a
  | .stock _ _ _ => 0

/-- The stamps of denomination d an outbound record carries. -/
def OutRecord.stamps (r : OutRecord) (d : Fin 16) : Nat :=
  match r.body with
  | .credit _ => 0
  | .stock e c _ => if e = d then c else 0

/-- OPEN_OUT (R2). -/
def State.openOut (s : State) : Nat := (s.settle.records.map OutRecord.credit).sum

/-- The open stock of a denomination (R70). -/
def State.openStock (s : State) (d : Fin 16) : Nat := (s.settle.records.map (·.stamps d)).sum

/-- The number of UNSETTLED records. -/
def State.unsettledCount (s : State) : Nat := s.settle.records.countP (·.state == .unsettled)

/-- CREDIT + HELD + OPEN_OUT (R2). -/
def State.committedCredit (s : State) : Nat := s.acct.credit + s.acct.held + s.openOut

/-- LOADED + TAKEN + RECLAIMED + OPEN_OUT (R3). -/
def State.ascendingTotal (s : State) : Nat := s.acct.loaded + s.acct.taken + s.acct.reclaimed + s.openOut

/-- 9,999,999 cents (R2). -/
def creditCap : Nat := 9999999

/-- 2^48 − 1 (R3). -/
def ascendingCap : Nat := 2 ^ 48 - 1

/-- ON_HAND + open stock (R70). -/
def State.committedStock (s : State) (d : Fin 16) : Nat := s.stock[d].onHand + s.openStock d

/-- RECEIVED + IN + OVER + RETURNED + open stock (R70). -/
def State.stockTotal (s : State) (d : Fin 16) : Nat :=
  s.stock[d].received + s.stock[d].inward + s.stock[d].overFound + s.stock[d].returned + s.openStock d

/-- The bound on committed stock (R70). -/
def stockCap : Nat := 65535

/-- The bound on the stock total, and on a count of 32 bits (R66, R70). -/
def counterCap : Nat := 4294967295

/-! ### Journal -/

/-- Entries and open outbound records (R89). -/
def State.occupancy (s : State) : Nat := s.journal.entries.length + s.settle.records.length

/-- The journal has space for an entry (R89). -/
def State.spaceForEntry (s : State) : Bool :=
  s.occupancy + 1 ≤ 240 && s.journal.nextSeq + s.settle.records.length ≤ 4294967294

/-- The journal has space for a give (R89). -/
def State.spaceForGive (s : State) : Bool :=
  s.occupancy + 2 ≤ 240 && s.journal.nextSeq + s.settle.records.length + 1 ≤ 4294967294

/-- Append an entry with the next sequence number and the timebase's day (R87), latching JOURNAL_NEAR_FULL when
the list grows from 199 to 200 entries (R92). -/
def State.append (kind : EntryKind) (peer : Option Station) (serial : Option Nat) (denom : Option (Fin 16))
    (direction : Option Direction) (amount : Nat) (balance : Option Nat) (s : State) : State :=
  (s.onJournal fun j =>
      { entries := j.entries ++ [{ seq := j.nextSeq, day := s.time.day, kind := kind, peer := peer,
                                   serial := serial, denom := denom, direction := direction, amount := amount,
                                   balance := balance }],
        nextSeq := j.nextSeq + 1 }).latchIf (s.journal.entries.length == 199) .journalNearFull

/-! ### CREDIT -/

/-- Give CREDIT a value and recompute the standing: a move from another band into LOW or EMPTY latches LOW_CREDIT
and wakes the balancer (R12, R13). -/
def State.setCredit (c : Nat) (s : State) : State :=
  let t := s.onAcct fun a => { a with credit := c }
  if t.standing.short && t.standing != s.standing then
    (t.latch .lowCredit).onBal fun b => { b with wakes := b.wakes + 1 }
  else t

/-! ### Park -/

/-- The active generation, 0 when there is no active bank (R24). -/
def State.activeGeneration (s : State) : Nat :=
  match s.tariff.active with
  | some b => b.generation
  | none => 0

/-- The staged generation as reported: 0 unless READY (R24). -/
def State.reportedStagedGeneration (s : State) : Nat :=
  if s.tariff.stagedState = .ready then s.tariff.stagedGeneration else 0

/-- This station's own number, 0 when STATION has not been set (R184). -/
def State.stationNumber (s : State) : Nat :=
  match s.ctl.config.station with
  | some k => k.val
  | none => 0

/-- The existing denominations in index order (R68). -/
def State.denoms (s : State) : List (Fin 16) := (List.range 16).filterMap s.denomAt

/-- The records of the park image after its header: registers, denominations, outbound records (R167). -/
def State.imageBody (s : State) : List ImageRecord :=
  .registers s.acct.credit s.acct.held s.acct.used s.acct.loaded s.acct.given s.acct.taken s.acct.settledOut
      s.acct.reclaimed ::
    (s.denoms.map fun d => .denomination d.val (s.face d) s.stock[d] (s.openStock d)) ++
    s.settle.records.map .outbound

/-- The image check: the CRC-32 over the first nine bytes of the header and the bytes of every later record
(R168, R192). -/
def imageCheck (header : ImageRecord) (body : List ImageRecord) : BitVec 32 :=
  crc32 ((imageRecordBytes header).take 9 ++ body.flatMap imageRecordBytes)

/-- The park image of the moment, with the active generation its header gives (R167). -/
def State.parkImage (generation : Nat) (s : State) : List ImageRecord :=
  let header (check : BitVec 32) : ImageRecord :=
    .header s.stationNumber s.time.day s.acct.lastSerial generation (s.imageBody.length + 1) check
  header (imageCheck (header 0) s.imageBody) :: s.imageBody

/-- Enter PARKED and form the park image (R164). -/
def State.enterParked (generation : Nat) (s : State) : State :=
  s.onCtl fun c => { c with state := .parked, image := s.parkImage generation }

/-- R164's condition: no open reservation and no UNSETTLED record. -/
def State.workClosed (s : State) : Bool := s.resv.table.isEmpty && s.unsettledCount == 0

/-- Station control takes a notice: a PARKING station with no open work enters PARKED (R59, R157, R164). DESIGN CHOICE: the
entry, a store record of its own, is one step with the event it follows, so an interruption never leaves that event recorded
and the station PARKING (log entry 46). -/
def State.notice (s : State) : State :=
  if s.ctl.state = .parking ∧ s.workClosed = true then s.enterParked s.activeGeneration else s

/-! ### Transmit queue -/

/-- A count that stays at 65,535 (R100). -/
def bump (n k : Nat) : Nat := min (n + k) 65535

/-- A frame that has made no attempt. -/
def TxEntry.fresh (p : Payload) : TxEntry := { payload := p, attempts := 0, inProgress := false, cancelled := false }

/-- A frame takes its place by identifier, behind those of equal identifier; one station's identifiers order as
its kind codes (R101, R106). -/
def insertTx (e : TxEntry) : List TxEntry → List TxEntry
  | [] => [e]
  | x :: xs => if x.payload.kind ≤ e.payload.kind then x :: insertTx e xs else e :: x :: xs

/-- Take out the last entry that satisfies p; where R107 displaces, the last in queue order counts as placed last (log
entry 38). -/
def eraseLast (p : TxEntry → Bool) (q : List TxEntry) : List TxEntry := (q.reverse.eraseP p).reverse

/-- The queued frame of highest identifier that is not in progress, of several the one placed last (R107). DESIGN CHOICE: the
last in queue order counts as placed last, also where a ROLL has since taken the place of another before it (log entry
38). -/
def lastWaiting (q : List TxEntry) : Option TxEntry := (q.filter fun e => !e.inProgress).getLast?

/-- A frame is a GIVE of the record with this receiver and serial. -/
def Payload.isGiveOf (receiver : Station) (serial : BitVec 16) : Payload → Bool
  | .give d n _ => d.toNat == receiver.val && n == serial
  | _ => false

/-- A frame is a QUERY of the record with this receiver and serial. -/
def Payload.isQueryOf (receiver : Station) (serial : BitVec 16) : Payload → Bool
  | .query d n => d.toNat == receiver.val && n == serial
  | _ => false

/-- A frame is a ROLL. -/
def Payload.isRoll : Payload → Bool
  | .roll _ => true
  | _ => false

/-- 500 ms, the answer wait (R139). -/
def answerWaitMs : Nat := 500

/-- The GIVE of a record has left the queue, acknowledged or dropped: the answer wait of the record, if it is
UNSETTLED, starts (R142). -/
def startWait (p : Payload) (r : OutRecord) : OutRecord :=
  if p.isGiveOf r.receiver r.serial && r.state == .unsettled then { r with wait := .running answerWaitMs } else r

/-- The owner of a frame that left the queue acts on it: a GIVE starts its record's answer wait, every other kind
changes no state (R109, R142). -/
def State.frameLeft (p : Payload) (s : State) : State :=
  s.onSettle fun u => { u with records := u.records.map (startWait p) }

/-- A frame is dropped at the queue: the queue-drop count rises and the owner is told (R107, R109). -/
def State.queueDrop (p : Payload) (s : State) : State :=
  (s.onLine fun l => { l with queueDrops := bump l.queueDrops 1 }).frameLeft p

/-- The eight places of the transmit queue (R100). -/
def txPlaces : Nat := 8

/-- A frame placed on a full queue displaces the last waiting frame of higher identifier, or is dropped (R107). -/
def State.placeFull (p : Payload) (s : State) : State :=
  match lastWaiting s.line.tx with
  | some x =>
    if p.kind < x.payload.kind then
      (s.onLine fun l =>
        { l with tx := insertTx (.fresh p) (eraseLast (fun e => !e.inProgress) l.tx) }).queueDrop x.payload
    else s.queueDrop p
  | none => s.queueDrop p

/-- Put a new ROLL in the place of the first one that waits (R108). DESIGN CHOICE: with two that wait, one of them back from
an attempt, the first is replaced and the second stays (log entry 38). -/
def replaceRoll (p : Payload) : List TxEntry → List TxEntry
  | [] => []
  | x :: xs => if x.payload.isRoll && !x.inProgress then .fresh p :: xs else x :: replaceRoll p xs

/-- Place a frame on the transmit queue: dropped at once while ALONE unless it is a ROLL (R105), a ROLL in place
of one that waits (R108), by identifier while fewer than eight are queued (R106), else as R107 gives. -/
def State.place (p : Payload) (s : State) : State :=
  if s.line.state = .alone ∧ p.isRoll = false then s.queueDrop p
  else if p.isRoll && s.line.tx.any (fun e => e.payload.isRoll && !e.inProgress) then
    s.onLine fun l => { l with tx := replaceRoll p l.tx }
  else if s.line.tx.length < txPlaces then
    s.onLine fun l => { l with tx := insertTx (.fresh p) l.tx }
  else s.placeFull p

/-- The GIVE of a record that strands or closes leaves the queue: at once when it waits, and when its attempt
ends when it is in progress (R143, R144). -/
def State.withdrawGive (receiver : Station) (serial : BitVec 16) (s : State) : State :=
  s.onLine fun l =>
    { l with tx := (l.tx.filter fun e => !(e.payload.isGiveOf receiver serial && !e.inProgress)).map fun e =>
        if e.payload.isGiveOf receiver serial then { e with cancelled := true } else e }

/-- Entry to ALONE: every queued frame is dropped, counted and reported, and LINE_ALONE becomes pending (R104,
R105). -/
def State.enterAlone (s : State) : State :=
  let t := (s.onLine fun l =>
    { l with state := .alone, tx := [], queueDrops := bump l.queueDrops l.tx.length }).latch .lineAlone
  (s.line.tx.map (·.payload)).foldl (fun u p => u.frameLeft p) t

/-- In line state ALONE, return to UP with run count 0 (R105). -/
def State.returnToUp (s : State) : State :=
  s.onLine fun l => if l.state = .alone then { l with state := .up, runCount := 0 } else l

/-! ### Outbound records -/

/-- The GIVE frame of a record (R142). -/
def OutRecord.givePayload (r : OutRecord) : Payload :=
  .give (.ofNat 8 r.receiver.val) r.serial
    (match r.body with
     | .credit a => .credit (.ofNat 32 a)
     | .stock d c f => .stock (.ofNat 4 d.val) (.ofNat 16 c) (.ofNat 16 f))

/-- A record to k is open. -/
def State.recordTo (s : State) (k : Station) : Bool := s.settle.records.any (·.receiver == k)

/-- R132 test 2 and R78 test 3: no record to k is open, and fewer than four records are open. -/
def State.roomForRecord (s : State) (k : Station) : Bool := !s.recordTo k && s.settle.records.length < 4

/-- The record that the next opening gives: the counter's next value as its serial, UNSETTLED, sends made 1
(R141). -/
def State.nextRecord (k : Station) (body : RecordBody) (s : State) : OutRecord :=
  { receiver := k, serial := s.settle.giveSerial + 1, body := body, state := .unsettled, sends := 1, wait := .stopped }

/-- Open a record at the end of the list; the give-serial counter rises by one, 65,535 followed by 0 (R141). -/
def State.openRecord (k : Station) (body : RecordBody) (s : State) : State :=
  s.onSettle fun u =>
    { u with giveSerial := u.giveSerial + 1, records := u.records ++ [s.nextRecord k body] }

/-- A record has this receiver and serial. -/
def OutRecord.isOf (k : Station) (serial : BitVec 16) (r : OutRecord) : Bool := r.receiver == k && r.serial == serial

/-- The open record an answer from k with this serial matches (R144). -/
def State.matched (s : State) (k : Station) (serial : BitVec 16) : Option OutRecord :=
  s.settle.records.find? (·.isOf k serial)

/-- Close a record: it leaves the list, the others keep their order (R141). -/
def State.closeRecord (r : OutRecord) (s : State) : State :=
  s.onSettle fun u => { u with records := u.records.eraseP (·.isOf r.receiver r.serial) }

/-- Change the first record that an answer or a timer names. -/
def updateRecord (p : OutRecord → Bool) (f : OutRecord → OutRecord) : List OutRecord → List OutRecord
  | [] => []
  | r :: rs => if p r then f r :: rs else r :: updateRecord p f rs

/-- A record as STRANDED, its answer wait stopped (R143). -/
def OutRecord.stranded (r : OutRecord) : OutRecord := { r with state := .stranded, wait := .stopped }

/-- Strand a record: STRANDED latches, its GIVE leaves the queue, and station control is told (R143, R157). -/
def State.strand (r : OutRecord) (s : State) : State :=
  ((((s.onSettle fun u =>
      { u with records := updateRecord (·.isOf r.receiver r.serial) OutRecord.stranded u.records }).latch
    .stranded).withdrawGive r.receiver r.serial)).notice

/-- The settle of a record: a credit record's amount comes to rest in SETTLED_OUT (R11), a stock record changes no
counter (R81); the record closes with a SETTLE entry (R86). -/
def State.settleRecord (r : OutRecord) (s : State) : State :=
  let t :=
    match r.body with
    | .credit g =>
      ((s.onAcct fun a => { a with settledOut := a.settledOut + g }).closeRecord r).append .settle (some r.receiver)
        (some r.serial.toNat) none none g (some s.acct.credit)
    | .stock d c _ =>
      (s.closeRecord r).append .settle (some r.receiver) (some r.serial.toNat) (some d) none c none
  (t.withdrawGive r.receiver r.serial).notice

/-- The restore of a record: a credit record's amount returns to CREDIT and RECLAIMED (R11), a stock record's count
to ON_HAND and RETURNED (R81); the record closes with a RESTORE entry (R86). -/
def State.restoreRecord (r : OutRecord) (s : State) : State :=
  let t :=
    match r.body with
    | .credit g =>
      (((s.onAcct fun a => { a with reclaimed := a.reclaimed + g }).closeRecord r).setCredit (s.acct.credit + g)).append
        .restore (some r.receiver) (some r.serial.toNat) none none g (some (s.acct.credit + g))
    | .stock d c _ =>
      ((s.onDenom d fun x => { x with onHand := x.onHand + c, returned := x.returned + c }).closeRecord r).append
        .restore (some r.receiver) (some r.serial.toNat) (some d) none c (some (s.stock[d].onHand + c))
  (t.withdrawGive r.receiver r.serial).notice

/-! ### Receipt table -/

/-- How an incoming serial stands to an entry (R147). -/
inductive Judgement where
  | equal (verdict : Verdict)
  | newer
  | older
  deriving DecidableEq, Repr

/-- Compare a serial with the receipt-table entry of its giver by half range; an EMPTY entry is older than every
serial (R147). -/
def judge (entry : Option Receipt) (s : BitVec 16) : Judgement :=
  match entry with
  | none => .newer
  | some e =>
    let d := (s - e.serial).toNat
    if d = 0 then .equal e.verdict else if d ≤ 32767 then .newer else .older

/-- The receipt-table entry for giver k (R146). -/
def State.receipt (s : State) (k : Station) : Option Receipt := s.settle.receipts[k.slot]

/-- Write the receipt-table entry for giver k (R146). -/
def State.setReceipt (k : Station) (serial : BitVec 16) (v : Verdict) (s : State) : State :=
  s.onSettle fun u => { u with receipts := u.receipts.set k.slot (some { serial := serial, verdict := v }) }

/-! ### Reservations -/

/-- Add one printed item to the totals of its class; a count of 4,294,967,295 stays (R66). -/
def State.addPrinted (c : Fin 8) (v : Nat) (s : State) : State :=
  s.onResv fun u =>
    { u with totals := u.totals.set c { count := min (u.totals[c].count + 1) counterCap, value := u.totals[c].value + v } }

/-- The printed or expired closure of one item: its value moves from HELD to USED and joins its class totals (R8,
R58, R66). -/
def State.chargeItem (i : ResItem) (s : State) : State :=
  (s.onAcct fun a => { a with held := a.held - i.value, used := a.used + i.value }).addPrinted i.cls i.value

/-- The items of a reservation that are GRANTED. -/
def Reservation.grantedItems (r : Reservation) : List ResItem := r.items.filter (·.state == .granted)

/-- The values of the items of a reservation that are GRANTED, summed (R49). -/
def Reservation.grantedValue (r : Reservation) : Nat := (r.grantedItems.map (·.value)).sum

/-- Charge every GRANTED item of a reservation and take the reservation out of the table (R60, R67). -/
def State.closeAsPrinted (r : Reservation) (s : State) : State :=
  (r.grantedItems.foldl (fun t i => t.chargeItem i) s).onResv fun u =>
    { u with table := u.table.eraseP (·.id == r.id) }

/-- The expiry of a reservation: its GRANTED items are charged as printed, RESERVATION_EXPIRED latches when there is
one (R65), and station control is told when the table is empty (R59, R60). -/
def State.expire (r : Reservation) (s : State) : State :=
  ((s.closeAsPrinted r).latchIf (!r.grantedItems.isEmpty) .reservationExpired).notice

/-- The open reservation that holds an id (R57). -/
def State.reservation (s : State) (id : Nat) : Option Reservation := s.resv.table.find? (·.id == id)

/-! ### Tariff store -/

/-- Make the READY staged bank the active bank; TARIFF_SWITCHED latches (R34, R45). -/
def State.switchTariff (s : State) : State :=
  (s.onTariff fun t =>
    { t with
      active := some { generation := t.stagedGeneration, effectiveDay := t.effectiveDay, content := t.staged },
      stagedState := .empty, staged := BankContent.empty, stagedGeneration := 0, effectiveDay := 0 }).latch .tariffSwitched

/-- The tariff store takes a day event: a READY bank whose effective day has come switches (R35). DESIGN CHOICE: the switch, a
store record of its own, is one step with the event it follows (log entries 40 and 47). -/
def State.tariffDay (s : State) : State :=
  if s.tariff.stagedState = .ready ∧ s.tariff.effectiveDay ≤ s.time.day then s.switchTariff else s

/-! ### Inspection -/

/-- The inspection count rises by some days, clamped at N + G; a rise from below N to N or above latches
INSPECTION_DUE (R176). DESIGN CHOICE: with INSPECT_DAYS 1 a day advance taken after a voucher makes the count 1 and so
DUE, as R176's table has it, where R177 calls both orders CURRENT (log entry 35). -/
def State.raiseInspection (days : Nat) (s : State) : State :=
  let n := s.ctl.config.inspectDays.value
  let count := min (s.time.inspection + days) s.lapseDay
  (s.onTime fun t => { t with inspection := count }).latchIf
    (decide (s.time.inspection < n) && decide (n ≤ count)) .inspectionDue

/-! ### Handing frames on (R111) -/

/-- The blocks a frame can be handed to. -/
inductive Handler where
  | offerer | balancer | settlement
  deriving DecidableEq, Repr

/-- The block that takes a kind of frame; a ROLL goes to no further block (R111). DESIGN CHOICE: the offerer and the
balancer count as two blocks, each with its own frame handed to it, as the rows of R111's table name them, though the
offerer is a role of the balancer (log entry 12). -/
def Payload.handler : Payload → Option Handler
  | .call _ | .take _ _ => some .offerer
  | .offer _ _ | .noneLeft _ => some .balancer
  | .give _ _ _ | .reply _ _ _ | .query _ _ => some .settlement
  | .roll _ => none

/-- A frame is for this station: addressed to it, or of a kind that addresses all (R101, R111). -/
def State.addressedHere (s : State) (p : Payload) : Bool :=
  match p.dest with
  | some d => s.ownNumber d.toNat
  | none => true

/-- The frame handed to a block and not yet taken by it. -/
def LineController.handed (l : LineController) : Handler → Option Frame
  | .offerer => l.toOfferer
  | .balancer => l.toBalancer
  | .settlement => l.toSettlement

/-- Set the frame handed to a block. -/
def LineController.setHanded (l : LineController) (f : Option Frame) : Handler → LineController
  | .offerer => { l with toOfferer := f }
  | .balancer => { l with toBalancer := f }
  | .settlement => { l with toSettlement := f }

/-- Hand a frame on to its block, or hold it while the block has not taken the frame handed to it before; a frame
that addresses another station is not handed on (R111). -/
def State.handOn (f : Frame) (s : State) : State :=
  match f.payload.handler with
  | none => s
  | some h =>
    if s.addressedHere f.payload then
      s.onLine fun l =>
        match l.handed h with
        | none => l.setHanded (some f) h
        | some _ => { l with holding := some f }
    else s

/-- A block has taken the frame handed to it: a frame the line controller holds for it is handed on (R111). -/
def State.frameTakenBy (h : Handler) (s : State) : State :=
  s.onLine fun l =>
    match l.holding with
    | some f =>
      if f.payload.handler = some h then { l.setHanded (some f) h with holding := none } else l.setHanded none h
    | none => l.setHanded none h

/-! ### Peers -/

/-- The peer-table entry of station k (R114). -/
def State.peer (s : State) (k : Station) : PeerEntry := s.line.peers[k.slot]

/-- Change the peer-table entry of station k. -/
def State.onPeer (k : Station) (f : PeerEntry → PeerEntry) (s : State) : State :=
  s.onLine fun l => { l with peers := l.peers.set k.slot (f l.peers[k.slot]) }

end Sys2Proof.Machine
end

