-- ==== Sys2Proof/Machine/HostPort.lean ====
section
/-! DEFINITION. The host port unit: taking a request, forming its response, fetching, STATUS and the region reads
(R178 to R186). -/

namespace Sys2Proof.Machine

/-! ### Taking a request -/

/-- A request refused with its status alone (R182). -/
def refuse (c : Code) (s : State) : State × Answer := (s, .result c [])

/-- A supervisor command is refused NOT_SUPERVISOR unless SUPV was asserted when it was taken (R182). -/
def supervised (supv : Bool) (run : State → State × Answer) (s : State) : State × Answer :=
  if supv then run s else refuse .notSupervisor s

/-- A command taken only in station state ACTIVE. -/
def whenActive (run : State → State × Answer) (s : State) : State × Answer :=
  if s.ctl.state = .active then run s else refuse .wrongState s

/-- A command refused WRONG_STATE while UNCONFIGURED. -/
def whenCommitted (run : State → State × Answer) (s : State) : State × Answer :=
  if s.ctl.state = .unconfigured then refuse .wrongState s else run s

/-- A request transaction that ends with RDY low: it is discarded, and the overrun flag is set while a request is
being handled; otherwise nothing is set (R179). -/
def State.overrunBy (s : State) : State :=
  s.onHost fun h => { h with overrun := h.overrun || h.answer.isSome }

/-- RDY high: the bytes become the request buffer, the previous response and the overrun flag are discarded, RDY goes
low, SUPV is sampled (R179); a clerk command, for which SUPV is not looked at (R182), carries no sample. -/
def State.acceptRequest (frame : List Byte) (supv : Option Bool) (s : State) : State :=
  s.onHost fun h =>
    { h with request := frame.take 63, response := none, overrun := false, rdy := false, supv := supv.getD h.supv }

/-- The result of the owning block awaits its response (R182). -/
def State.answered (p : State × Answer) : State := p.1.onHost fun h => { h with answer := some p.2 }

/-- The end of a request transaction (R179): taken and run when RDY is high, discarded when it is low. Without main
power the part takes nothing. -/
def State.takeRequest (frame : List Byte) (supv : Option Bool) (run : State → State × Answer) (s : State) : State :=
  if s.powered = false then s
  else if s.host.rdy = false then s.overrunBy
  else State.answered (run (s.acceptRequest frame supv))

/-- A request given by its fields: one that fits no frame is a BAD_FRAME (R181). -/
def State.hostRequest (r : Request) (supv : Option Bool) (run : State → State × Answer) (s : State) : State :=
  s.takeRequest (requestFrame r) supv (if r.paramCount ≤ 60 then run else refuse .badFrame)

/-! ### STATUS -/

/-- The flags byte of STATUS: LIMIT, line ALONE, TIME_LOST, inspection state in bits 3 and 4 (R189). DESIGN CHOICE:
bits 5 to 7 read 0 (log entry 43). -/
def State.statusFlags (s : State) : Byte :=
  BitVec.ofNat 8 (s.acct.limit.toNat + 2 * (s.line.state == .alone).toNat + 4 * s.time.timeLost.toNat +
    8 * s.inspection.code.toNat)

/-- The 70 data bytes of STATUS (R184, R189). -/
def State.statusData (s : State) : List Byte :=
  beBytes 1 s.stationNumber ++ [s.ctl.state.code, s.standing.code, s.statusFlags] ++ beBytes 1 s.activeGeneration ++
    [s.tariff.stagedState.code] ++ beBytes 1 s.reportedStagedGeneration ++ beBytes 2 s.time.day ++
    beBytes 1 s.time.inspection ++ beBytes 1 s.journal.entries.length ++ beBytes 1 s.resv.table.length ++
    beBytes 1 s.settle.records.length ++ beBytes 2 s.alertSet ++ beBytes 4 s.acct.lastSerial ++
    beBytes 4 s.acct.credit ++ beBytes 4 s.acct.held ++ beBytes 6 s.acct.used ++ beBytes 6 s.acct.loaded ++
    beBytes 6 s.acct.given ++ beBytes 6 s.acct.taken ++ beBytes 6 s.acct.settledOut ++ beBytes 6 s.acct.reclaimed ++
    beBytes 1 s.line.runCount ++ beBytes 2 s.line.attemptDrops ++ beBytes 2 s.line.queueDrops ++
    beBytes 2 s.line.receiveDrops

/-- The host port takes a STATUS; its values are read when its response is formed (R184). -/
def statusRequest (s : State) : State × Answer := (s, .statusReport)

/-! ### Region reads -/

/-- The record of a region at an index, as it stands (R185, R192). -/
def State.recordAt (s : State) : Region → Nat → Option (List Byte)
  | .journal, i => s.journal.entries[i]?.map entryRecord
  | .peers, i => if h : i < 15 then some (peerRecord (s.freeBytes 9) (stationAt ⟨i, h⟩) s.line.peers[i]) else none
  | .stock, i => (s.denomAt i).map fun d => stockRecord i (s.face d) s.stock[d] (s.openStock d)
  | .classes, i => if h : i < 8 then some (classRecordBytes i s.resv.totals[i]) else none
  | .outbound, i => s.settle.records[i]?.map outboundRecord
  | .image, i => s.ctl.image[i]?.map imageRecordBytes
  | .config, i =>
    let item := if i < 14 then i else 14
    let index := if i < 14 then 0 else i - 14
    (s.ctl.config.item item index).map fun v => configBytes (s.freeBytes 8) item index v.1 v.2

/-- A read of a region at an index: the record, and the cursor past it; END leaves the cursor (R185). -/
def readRegion (r : Region) (index : Nat) (s : State) : State × Answer :=
  if s.ctl.state = .unconfigured ∧ r ≠ .config then refuse .wrongState s
  else if r = .image ∧ s.ctl.state ≠ .parked then refuse .notParked s
  else match s.recordAt r index with
    | none => refuse .endOfRegion s
    | some bytes =>
      ((s.onHost fun h => { h with cursorRegion := r, cursorIndex := index + 1 }).drawn,
        .result .ok (r.code :: beBytes 2 index ++ bytes))

/-- READ_AT: a region code above 6 is refused BAD_PARAMETER (R185). -/
def readAtRequest (region : Byte) (index : BitVec 16) (s : State) : State × Answer :=
  match regionOf region.toNat with
  | none => refuse .badParameter s
  | some r => readRegion r index.toNat s

/-- READ_NEXT reads at the cursor (R185). -/
def readNextRequest (s : State) : State × Answer := readRegion s.host.cursorRegion s.host.cursorIndex s

/-! ### Responses -/

/-- The code and data of a response at the moment it is formed (R175, R184). -/
def State.responseContent (s : State) : Answer → Code × List Byte
  | .result c data => (c, data)
  | .statusReport => (.ok, s.statusData)
  | .setDayReport day count inspection =>
    (.ok, beBytes 2 day ++ beBytes 1 count ++ [inspection.code] ++ beBytes 1 s.activeGeneration)

/-- The response frame of a result, with the OVERRUN flag (R179, R189). -/
def State.formedFrame (s : State) (a : Answer) : List Byte :=
  responseFrame (s.responseContent a).1 s.host.overrun (s.responseContent a).2

/-- A STATUS response clears, in the same step, the alerts it reports (R183). -/
def State.afterReport (s : State) : Answer → State
  | .statusReport => s.clearReported
  | .result _ _ | .setDayReport _ _ _ => s

/-- The response of the request being handled enters the response buffer and RDY goes high (R179). -/
def State.formResponse (s : State) : State :=
  match s.host.answer with
  | none => s
  | some a =>
    (s.afterReport a).onHost fun h =>
      { h with request := [], response := some (s.formedFrame a), rdy := true, answer := none }

/-- What a fetch clocks out after its 0x00 byte, before 0xFF: NOT_READY, or the response frame (R180). -/
def State.fetchOutput (s : State) : List Byte :=
  if s.host.rdy then s.host.response.getD [0x01] else [0x01]

/-- The n bytes a fetch clocks out after its 0x00 byte: NOT_READY or the response frame, then 0xFF (R180). -/
def State.fetchBytes (s : State) (n : Nat) : List Byte :=
  (s.fetchOutput ++ List.replicate (n - s.fetchOutput.length) 0xFF).take n

/-- The bytes a request transaction clocks out, one for each byte clocked in: 0xFF (R179). -/
def requestOutput (clockedIn : List Byte) : List Byte := clockedIn.map fun _ => 0xFF

/-- The bytes clocked out in a transaction that clocks these bytes in, from its first byte for a request (R179) and from
the byte after the 0x00 for a fetch (R180). What stands on the output during the 0x00 byte the data book does not say. -/
def State.clockedOut (s : State) (clockedIn : List Byte) : List Byte :=
  if clockedIn.headD 0 = 0 then s.fetchBytes (clockedIn.length - 1) else requestOutput clockedIn

/-! ### Meanings -/

/-- REQUEST_OVERRUN: a request transaction ends while RDY is low (R179). With RDY high there is no overrun. -/
def execRequestOverrun (s : State) : Host.Outcome State Fault Refusal :=
  .next (if s.powered && !s.host.rdy then s.overrunBy else s)

/-- FETCH clocks out State.fetchBytes and changes no state (R180). -/
def execFetch (s : State) : Host.Outcome State Fault Refusal := .next s

/-- STATUS (R184). -/
def execStatus (s : State) : Host.Outcome State Fault Refusal :=
  .next (s.hostRequest .status none statusRequest)

/-- READ_AT (R185). -/
def execReadAt (region : Byte) (index : BitVec 16) (s : State) : Host.Outcome State Fault Refusal :=
  .next (s.hostRequest (.readAt region index) none (readAtRequest region index))

/-- READ_NEXT (R185). -/
def execReadNext (s : State) : Host.Outcome State Fault Refusal :=
  .next (s.hostRequest .readNext none readNextRequest)

/-- RESPONSE_FORMED (R179). -/
def execResponseFormed (s : State) : Host.Outcome State Fault Refusal :=
  .next (if s.powered then s.formResponse else s)

end Sys2Proof.Machine
end

