-- ==== Sys2Proof/Machine/AccountUnit.lean ====
section
/-! DEFINITION. The account unit's own command, VOUCHER (R16 to R21). -/

namespace Sys2Proof.Machine

/-- The values every admitted VOUCHER is answered with, taken after the request (R20). -/
def State.voucherData (s : State) : List Byte :=
  beBytes 4 s.acct.lastSerial ++ beBytes 4 s.acct.credit ++ [s.standing.code, flagByte s.acct.limit]

/-- A voucher of this amount would pass a cap (R2, R3). -/
def State.overCap (s : State) (amount : Nat) : Bool :=
  creditCap < s.committedCredit + amount || ascendingCap < s.ascendingTotal + amount

/-- The tests of R18 in order: the code of the first that fails, none when the voucher is accepted. -/
def State.voucherTest (s : State) (branch : BitVec 16) (station : Byte) (serial amount check : BitVec 32) : Option Code :=
  if check ≠ voucherCheck s.ctl.config.key branch station serial amount then some .voucherCheck
  else if ¬(branch.toNat = s.ctl.config.branch.value ∧ s.ownNumber station.toNat = true) then some .voucherCheck
  else if serial.toNat ≤ s.acct.lastSerial then some .voucherDuplicate
  else if s.acct.lastSerial + 1 < serial.toNat then some .voucherSequence
  else if s.overCap amount.toNat then some .creditCap
  else if s.spaceForEntry = false then some .journalFull
  else none

/-- The value event of an accepted voucher (R19). -/
def State.acceptVoucher (serial amount : Nat) (s : State) : State :=
  ((((s.onAcct fun a => { a with loaded := a.loaded + amount, lastSerial := serial }).setCredit
    (s.acct.credit + amount)).append .voucher none (some serial) none none amount (some (s.acct.credit + amount)))).onTime
    fun t => { t with inspection := 0 }

/-- VOUCHER after the frame checks and SUPV (R17 to R20). -/
def voucherRequest (branch : BitVec 16) (station : Byte) (serial amount check : BitVec 32) (s : State) : State × Answer :=
  if s.ctl.state ≠ .active then refuse .wrongState s
  else if creditCap < amount.toNat then refuse .badParameter s
  else match s.voucherTest branch station serial amount check with
    | none =>
      let t := s.acceptVoucher serial.toNat amount.toNat
      (t, .result .ok t.voucherData)
    | some c =>
      let t := if c = .creditCap then s.setLimit else s
      (t, .result c t.voucherData)

/-- VOUCHER (R18). -/
def execVoucher (supv : Bool) (branch : BitVec 16) (station : Byte) (serial amount check : BitVec 32) (s : State) :
    Host.Outcome State Fault Refusal :=
  .next (s.hostRequest (.voucher branch station serial amount check) (some supv)
    (supervised supv (voucherRequest branch station serial amount check)))

end Sys2Proof.Machine
end

