-- ==== Sys2Proof/Machine/JournalUnit.lean ====
section
/-! DEFINITION. The journal's command, AUDIT_CLOSE (R94 to R97). -/

namespace Sys2Proof.Machine

/-- The number of entries an audit close removes: those with sequence number q or less (R95). -/
def State.closedCount (s : State) (q : Nat) : Nat := s.journal.entries.countP (·.seq ≤ q)

/-- The cursor falls by the number removed when it stands in region JOURNAL (R96). -/
def HostPort.cursorFalls (removed : Nat) (h : HostPort) : HostPort :=
  if h.cursorRegion = .journal then { h with cursorIndex := h.cursorIndex - removed } else h

/-- The removal of the entries up to q, and of LIMIT (R95, R96). A q beyond the newest entry removes them all, as the
clamped q does. -/
def State.closeAudit (q : Nat) (s : State) : State :=
  ((s.onJournal fun j => { j with entries := j.entries.filter fun e => q < e.seq }).onAcct fun a =>
    { a with limit := false }).onHost (HostPort.cursorFalls (s.closedCount q))

/-- The sequence number of the oldest entry, 0 when there is none (R95). -/
def State.oldestSeq (s : State) : Nat :=
  match s.journal.entries with
  | [] => 0
  | e :: _ => e.seq

/-- AUDIT_CLOSE after the frame checks and SUPV (R94, R95). -/
def auditCloseRequest (q : BitVec 32) (s : State) : State × Answer :=
  let t := s.closeAudit q.toNat
  (t, .result .ok (beBytes 1 (s.closedCount q.toNat) ++ beBytes 1 t.journal.entries.length ++ beBytes 4 t.oldestSeq ++
    beBytes 4 t.journal.nextSeq ++ [flagByte t.acct.limit]))

/-- AUDIT_CLOSE (R95). -/
def execAuditClose (supv : Bool) (q : BitVec 32) (s : State) : Host.Outcome State Fault Refusal :=
  .next (s.hostRequest (.auditClose q) (some supv) (supervised supv (whenCommitted (auditCloseRequest q))))

end Sys2Proof.Machine
end

