-- ==== Sys2Proof/Machine/LineUnit.lean ====
section
/-! DEFINITION. The line controller: attempts, arrivals, the receive queue and the peer table (R100 to R121). The
forming of a ROLL stands here; the roll tick that places it stands in SettlementUnit.lean. -/

namespace Sys2Proof.Machine

/-! ### Attempts -/

/-- Mark the frame at the front as in progress (R102). -/
def markFront : List TxEntry → List TxEntry
  | [] => []
  | x :: xs => { x with inProgress := true } :: xs

/-- The frame in progress, if there is one (R102). -/
def LineController.inProgress (l : LineController) : Option TxEntry := l.tx.find? (·.inProgress)

/-- The line is free: the frame at the front of the queue is offered, and is in progress (R102). While an attempt is in
progress the line is not free. -/
def State.startAttempt (s : State) : State :=
  match s.line.inProgress with
  | some _ => s
  | none => s.onLine fun l => { l with tx := markFront l.tx }

/-- The frame in progress leaves the queue. -/
def State.removeInProgress (s : State) : State :=
  s.onLine fun l => { l with tx := l.tx.eraseP (·.inProgress) }

/-- Change the frame in progress where it stands. -/
def updateInProgress (f : TxEntry → TxEntry) : List TxEntry → List TxEntry
  | [] => []
  | x :: xs => if x.inProgress then f x :: xs else x :: updateInProgress f xs

/-- Arbitration is lost: the frame stays queued with its attempt count unchanged, and is no longer in progress (R102);
a GIVE its record no longer needs leaves (R143). -/
def State.loseArbitration (s : State) : State :=
  match s.line.inProgress with
  | none => s
  | some e =>
    if e.cancelled then s.removeInProgress
    else s.onLine fun l => { l with tx := updateInProgress (fun x => { x with inProgress := false }) l.tx }

/-- The attempt is acknowledged: the frame leaves the queue, the run count becomes 0, an acknowledged ROLL returns the
line to UP, and the wait of a GIVE starts (R102, R103, R105, R142). -/
def State.acknowledge (s : State) : State :=
  match s.line.inProgress with
  | none => s
  | some e =>
    let t := s.removeInProgress.onLine fun l => { l with runCount := 0 }
    (if e.payload.isRoll then t.returnToUp else t).frameLeft e.payload

/-- Sixteen attempts (R103). -/
def lastAttempt : Nat := 16

/-- A frame leaves after its last attempt: the attempt-drop count rises and the owner is told (R103, R109). -/
def State.attemptDrop (p : Payload) (s : State) : State :=
  (s.removeInProgress.onLine fun l => { l with attemptDrops := bump l.attemptDrops 1 }).frameLeft p

/-- The run count rises; at 8 the line state becomes ALONE (R103, R104). -/
def State.countRun (s : State) : State :=
  let t := s.onLine fun l => { l with runCount := l.runCount + 1 }
  if 8 ≤ t.line.runCount then t.enterAlone else t

/-- The attempt fails: in UP the attempt count rises and the sixteenth drops the frame; in ALONE the single attempt drops
it; a GIVE its record no longer needs leaves without a drop (R102, R103, R105, R143). -/
def State.failAttempt (s : State) : State :=
  match s.line.inProgress with
  | none => s
  | some e =>
    if e.cancelled then s.removeInProgress
    else if s.line.state = .alone then s.attemptDrop e.payload
    else if lastAttempt ≤ e.attempts + 1 then (s.attemptDrop e.payload).countRun
    else s.onLine fun l =>
      { l with tx := updateInProgress (fun x => { x with attempts := x.attempts + 1, inProgress := false }) l.tx }

/-- The identifier and data bytes on the line while an attempt is in progress (R101, R191). -/
def State.lineOutput (s : State) : Option (BitVec 11 × List Byte) :=
  match s.line.inProgress, s.ctl.config.station with
  | some e, some k => some (e.payload.identifier k, e.payload.data)
  | _, _ => none

/-! ### Arrival -/

/-- The sixteen places of the receive queue (R100); a held frame fills none of them (log entry 44). -/
def rxPlaces : Nat := 16

/-- A frame that arrives is judged in the order of R110. -/
def State.arrive (identifier : BitVec 11) (data : List Byte) (s : State) : State :=
  match parseFrame identifier data with
  | none => s
  | some f =>
    let t := s.returnToUp
    if s.ownNumber f.sender.val then t.latch .stationClash
    else if t.line.rx.length < rxPlaces then t.onLine fun l => { l with rx := l.rx ++ [f] }
    else t.onLine fun l => { l with receiveDrops := bump l.receiveDrops 1 }

/-! ### The peer table -/

/-- An announced period as the table stores it: 0 as 1, above 60 as 60 (R116). -/
def storedPeriod (p : Byte) : Byte := if p.toNat = 0 then 1 else if 60 < p.toNat then 60 else p

/-- The roll content the table stores for a ROLL (R116). -/
def storedRoll (r : RollContent) : RollContent := { r with period := storedPeriod r.period }

/-- A frame taken makes its sender PRESENT with silence 0, and a ROLL replaces the roll content (R115, R116). -/
def PeerEntry.heard (p : Payload) (e : PeerEntry) : PeerEntry :=
  { presence := .present, silence := 0,
    roll := match p with
      | .roll r => some (storedRoll r)
      | _ => e.roll }

/-- PEER_TARIFF_NEWER's condition for a ROLL taken against the sender's entry before it (R119). -/
def State.announcesNewer (s : State) (e : PeerEntry) : Payload → Bool
  | .roll r =>
    s.activeGeneration < r.generation.toNat && s.reportedStagedGeneration < r.generation.toNat &&
      (match e.roll with
       | none => true
       | some old => old.generation != r.generation)
  | _ => false

/-- The frame at the front of the receive queue is taken: the peer table first, then the handing on (R111). DESIGN CHOICE:
it gives up its place in the queue as it is taken, so a frame held for its block fills none of the sixteen places, though R100
counts frames not yet handed on (log entry 44). -/
def State.takeFront (s : State) : State :=
  match s.line.rx with
  | [] => s
  | f :: rest =>
    if s.line.holding.isSome then s
    else
      (((s.onLine fun l => { l with rx := rest }).onPeer f.sender (PeerEntry.heard f.payload)).latchIf
        (s.announcesNewer (s.peer f.sender) f.payload) .peerTariffNewer).handOn f

/-- The period absence is timed on: the announced one, 60 seconds without roll content (R117). -/
def PeerEntry.period (e : PeerEntry) : Nat :=
  match e.roll with
  | some r => r.period.toNat
  | none => 60

/-- The absence of a PRESENT peer is due: its silence has reached three times its period (R117). -/
def PeerEntry.absenceDue (e : PeerEntry) : Bool := e.presence == .present && 3 * e.period ≤ e.silence

/-- A PRESENT entry whose absence is due becomes ABSENT (R117). -/
def PeerEntry.judged (e : PeerEntry) : PeerEntry := if e.absenceDue then { e with presence := .absent } else e

/-- A second of silence for a PRESENT or ABSENT entry, at most 65,535 (R117). -/
def PeerEntry.secondPasses (e : PeerEntry) : PeerEntry :=
  if e.presence = .present ∨ e.presence = .absent then { e with silence := min (e.silence + 1) 65535 } else e

/-- A second of the line controller's elapsed-time count (R117). -/
def State.silenceSecond (s : State) : State :=
  s.onLine fun l => { l with peers := Vector.ofFn fun i => l.peers[i].secondPasses, secondMs := 0 }

/-! ### The ROLL -/

/-- The six values of a ROLL, of the moment (R113). -/
def State.rollContent (s : State) : RollContent :=
  { state := s.ctl.state, standing := s.standing, spare := .ofNat 32 s.spare,
    period := .ofNat 8 s.ctl.config.rollPeriod.value, generation := .ofNat 8 s.activeGeneration,
    canGive := s.spaceForGive }

/-- The self entry after a ROLL is formed (R114). -/
def PeerEntry.selfEntry (r : Option RollContent) : PeerEntry := { presence := .self, silence := 0, roll := r }

/-- Set the self entry, at the station's own number (R114). -/
def State.setSelf (r : RollContent) (s : State) : State :=
  match s.ctl.config.station with
  | some k => s.onPeer k fun _ => PeerEntry.selfEntry (some r)
  | none => s

/-- The line controller's share of a roll tick: a ROLL is formed and placed (R112, R113). -/
def State.formRoll (s : State) : State := (s.setSelf s.rollContent).place (.roll s.rollContent)

/-! ### Meanings -/

/-- ATTEMPT (R102). -/
def execAttempt (s : State) : Host.Outcome State Fault Refusal := .next (if s.active then s.startAttempt else s)

/-- ARBITRATION_LOST (R102). -/
def execArbitrationLost (s : State) : Host.Outcome State Fault Refusal :=
  .next (if s.active then s.loseArbitration else s)

/-- ATTEMPT_ACKNOWLEDGED (R102). -/
def execAttemptAcknowledged (s : State) : Host.Outcome State Fault Refusal :=
  .next (if s.active then s.acknowledge else s)

/-- ATTEMPT_FAILED (R103). -/
def execAttemptFailed (s : State) : Host.Outcome State Fault Refusal :=
  .next (if s.active then s.failAttempt else s)

/-- FRAME_ARRIVAL (R110). -/
def execFrameArrival (identifier : BitVec 11) (data : List Byte) (s : State) : Host.Outcome State Fault Refusal :=
  .next (if s.active then s.arrive identifier data else s)

/-- FRAME_TAKEN (R111, R115). -/
def execFrameTaken (s : State) : Host.Outcome State Fault Refusal := .next (if s.active then s.takeFront else s)

/-- PEER_ABSENCE (R117). -/
def execPeerAbsence (k : Station) (s : State) : Host.Outcome State Fault Refusal :=
  .next (if s.active then s.onPeer k PeerEntry.judged else s)

/-- SILENCE_SECOND (R117). -/
def execSilenceSecond (s : State) : Host.Outcome State Fault Refusal :=
  .next (if s.active then s.silenceSecond else s)

end Sys2Proof.Machine
end

