-- ==== Sys2Proof/Machine/BalancerUnit.lean ====
section
/-! DEFINITION. The balancer, as caller and as offerer (R122 to R138). -/

namespace Sys2Proof.Machine

/-! ### The caller -/

/-- 250 ms, the offer window (R122). -/
def offerWindowMs : Nat := 250

/-- 500 ms, the take wait (R122). -/
def takeWaitMs : Nat := 500

/-- A peer the balancer may call on: PRESENT, announced ACTIVE, SURPLUS and can-give (R124). -/
def PeerEntry.surplusPeer (e : PeerEntry) : Bool :=
  e.presence == .present &&
    (match e.roll with
     | some r => r.state == .active && r.standing == .surplus && r.canGive
     | none => false)

/-- The start test (R124). -/
def State.mayCall (s : State) : Bool :=
  s.bal.caller == .idle && s.ctl.state == .active && s.standing.short && s.bal.backoffWait == 0 && s.spaceForEntry &&
    s.line.state == .up && s.line.peers.toList.any PeerEntry.surplusPeer && s.minTransfer ≤ s.need

/-- When the start test passes, a CALL is placed and the offer window starts (R124). -/
def State.startTest (s : State) : State :=
  if s.mayCall then
    (s.onBal fun b => { b with caller := .calling, offers := [], offerWindow := .running offerWindowMs }).place
      (.call (.ofNat 32 s.need))
  else s

/-- The backoff wait of a level: 1, 2, 4, 8 (R128). -/
def backoffTicks (level : Nat) : Nat := 2 ^ (level - 1)

/-- The caller returns to IDLE: offers and timers are cleared, the backoff stays (R126, R127, R134). -/
def Balancer.toIdle (b : Balancer) : Balancer :=
  { b with caller := .idle, offers := [], offerWindow := .stopped, takeWait := .stopped }

/-- IDLE with backoff: the level rises, at most to 4, and sets the wait (R128). -/
def Balancer.backOff (b : Balancer) : Balancer :=
  { b.toIdle with backoffLevel := min (b.backoffLevel + 1) 4, backoffWait := backoffTicks (min (b.backoffLevel + 1) 4) }

/-- The better of two offers: the larger amount, of equal amounts the lower station number (R126). -/
def betterOffer (a b : Station × Nat) : Station × Nat :=
  if a.2 < b.2 ∨ (a.2 = b.2 ∧ b.1.val < a.1.val) then b else a

/-- The chosen offer (R126). -/
def chooseOffer : List (Station × Nat) → Option (Station × Nat)
  | [] => none
  | o :: os => some (os.foldl betterOffer o)

/-- The offer window runs out: the pick (R126). -/
def State.pick (s : State) : State :=
  match s.bal.caller with
  | .calling =>
    match chooseOffer s.bal.offers with
    | none => s.onBal Balancer.backOff
    | some (k, _) =>
      if s.need < s.minTransfer then s.onBal Balancer.toIdle
      else
        (s.onBal fun b => { b.toIdle with caller := .taking k s.need, takeWait := .running takeWaitMs }).place
          (.take (.ofNat 8 k.val) (.ofNat 32 s.need))
  | _ => s

/-- The take wait runs out (R127). -/
def State.endTakeWait (s : State) : State :=
  match s.bal.caller with
  | .taking _ _ => s.onBal Balancer.backOff
  | _ => s

/-- An offer enters the list; a second one from its sender replaces the first (R125). -/
def addOffer (k : Station) (amount : Nat) (os : List (Station × Nat)) : List (Station × Nat) :=
  os.filter (fun o => o.1 != k) ++ [(k, amount)]

/-- The three results of an incoming credit GIVE (R127). -/
inductive GiveResult where
  | credited | voided | deferred
  deriving DecidableEq, Repr

/-- The caller takes the outcome of a credit GIVE (R127). -/
def State.giveOutcome (giver : Station) (r : GiveResult) (s : State) : State :=
  match s.bal.caller with
  | .taking k _ =>
    if k = giver then
      if r = .credited then s.onBal fun b => { b.toIdle with backoffLevel := 0, backoffWait := 0 }
      else s.onBal Balancer.backOff
    else s
  | _ => s

/-- The balancer's share of a roll tick: the wait falls by one, then the start test (R123, R128). -/
def State.balancerTick (s : State) : State :=
  (s.onBal fun b => { b with backoffWait := b.backoffWait - 1 }).startTest

/-! ### The offerer -/

/-- The amount of an OFFER: the smaller of the need carried and CREDIT − T (R131). -/
def State.offerAmount (s : State) (need : Nat) : Nat := min need s.spare

/-- The conditions of an OFFER (R131). -/
def State.mayOffer (s : State) (caller : Station) (need : Nat) : Bool :=
  s.ctl.state == .active && s.standing == .surplus && s.spaceForGive && s.roomForRecord caller && s.line.state == .up &&
    s.minTransfer ≤ s.offerAmount need

/-- The offerer takes a CALL (R131). -/
def State.takeCall (caller : Station) (need : Nat) (s : State) : State :=
  if s.mayOffer caller need then s.place (.offer (.ofNat 8 caller.val) (.ofNat 32 (s.offerAmount need))) else s

/-- The value event of a credit give, then its GIVE on the transmit queue (R9, R132, R141, R142). -/
def State.giveCredit (k : Station) (g : Nat) (s : State) : State :=
  let r := s.nextRecord k (.credit g)
  (((((s.onAcct fun a => { a with given := a.given + g }).setCredit (s.acct.credit - g)).openRecord k r.body).append
    .giveCredit (some k) (some r.serial.toNat) none none g (some (s.acct.credit - g)))).place r.givePayload

/-- The offerer takes a TAKE of a from k: the tests of R132 in order; the first failure answers NONE, and test 5 sets
LIMIT too. -/
def State.takeTake (k : Station) (a : Nat) (s : State) : State :=
  let none' (t : State) : State := t.place (.noneLeft (.ofNat 8 k.val))
  let g := min a s.spare
  if s.ctl.state ≠ .active then none' s
  else if s.roomForRecord k = false then none' s
  else if g < s.minTransfer then none' s
  else if s.spaceForGive = false then none' s
  else if ascendingCap < s.ascendingTotal + g then none' s.setLimit
  else s.giveCredit k g

/-! ### Meanings -/

/-- BACKOFF_WAIT_END: the moment the roll tick's count brings the wait to 0. The count and that tick's start test are
parts of the tick (R123, R128); the end of the wait changes nothing more. -/
def execBackoffWaitEnd (s : State) : Host.Outcome State Fault Refusal := .next s

/-- BALANCER_WAKE: a wake the account unit released is taken, and the start test with it (R13, R123). -/
def execBalancerWake (s : State) : Host.Outcome State Fault Refusal :=
  .next (if s.active && 0 < s.bal.wakes then (s.onBal fun b => { b with wakes := b.wakes - 1 }).startTest else s)

/-- OFFER_WINDOW (R126). -/
def execOfferWindow (s : State) : Host.Outcome State Fault Refusal := .next (if s.active then s.pick else s)

/-- TAKE_WAIT (R127). -/
def execTakeWait (s : State) : Host.Outcome State Fault Refusal := .next (if s.active then s.endTakeWait else s)

/-- CALL: the offerer takes the CALL handed to it (R131). -/
def execCallFrame (s : State) : Host.Outcome State Fault Refusal :=
  .next (match s.active, s.line.toOfferer with
    | true, some { sender := k, payload := .call need } => (s.frameTakenBy .offerer).takeCall k need.toNat
    | _, _ => s)

/-- TAKE: the offerer takes the TAKE handed to it (R132). -/
def execTakeFrame (s : State) : Host.Outcome State Fault Refusal :=
  .next (match s.active, s.line.toOfferer with
    | true, some { sender := k, payload := .take _ asked } => (s.frameTakenBy .offerer).takeTake k asked.toNat
    | _, _ => s)

/-- OFFER: the balancer takes the OFFER handed to it; it is collected while CALLING (R125). -/
def execOfferFrame (s : State) : Host.Outcome State Fault Refusal :=
  .next (match s.active, s.line.toBalancer with
    | true, some { sender := k, payload := .offer _ amount } =>
      (s.frameTakenBy .balancer).onBal fun b =>
        if b.caller = .calling then { b with offers := addOffer k amount.toNat b.offers } else b
    | _, _ => s)

/-- NONE: the balancer takes the NONE handed to it; from the chosen station it ends the take (R127). -/
def execNoneFrame (s : State) : Host.Outcome State Fault Refusal :=
  .next (match s.active, s.line.toBalancer with
    | true, some { sender := k, payload := .noneLeft _ } =>
      (s.frameTakenBy .balancer).onBal fun b =>
        match b.caller with
        | .taking chosen _ => if chosen = k then b.backOff else b
        | _ => b
    | _, _ => s)

end Sys2Proof.Machine
end

