-- ==== Sys2Proof/Machine/StockUnit.lean ====
section
/-! DEFINITION. The stock unit: SELL, STOCK_IN, COUNT, CONSIGN and the stock receipt (R68 to R83). -/

namespace Sys2Proof.Machine

/-! ### SELL -/

/-- The response of a SELL: denomination, count asked, ON_HAND, sale value (R74, R190). -/
def sellData (denom : Byte) (count : BitVec 16) (onHand value : Nat) : List Byte :=
  denom :: beBytes 2 count.toNat ++ beBytes 2 onHand ++ beBytes 4 value

/-- SELL after the frame checks (R72 to R74). -/
def sellRequest (denom : Byte) (count : BitVec 16) (s : State) : State × Answer :=
  if ¬(1 ≤ count.toNat ∧ count.toNat ≤ 999) then refuse .badParameter s
  else match s.denomAt denom.toNat with
    | none => (s, .result .denomAbsent (sellData denom count 0 0))
    | some d =>
      if s.stock[d].onHand < count.toNat then (s, .result .stockShort (sellData denom count s.stock[d].onHand 0))
      else
        let t := s.onDenom d fun x => { x with onHand := x.onHand - count.toNat, sold := x.sold + count.toNat }
        (t, .result .ok (sellData denom count t.stock[d].onHand (count.toNat * s.face d)))

/-! ### STOCK_IN -/

/-- The response of a STOCK_IN: denomination, ON_HAND, RECEIVED, LIMIT (R75, R190). -/
def stockInData (denom : Byte) (onHand received : Nat) (limit : Bool) : List Byte :=
  denom :: beBytes 2 onHand ++ beBytes 4 received ++ [flagByte limit]

/-- A count would pass one of the two bounds of a denomination (R70). -/
def State.overStock (s : State) (d : Fin 16) (count : Nat) : Bool :=
  stockCap < s.committedStock d + count || counterCap < s.stockTotal d + count

/-- The value event of a delivery (R75). -/
def State.deliver (d : Fin 16) (c : Nat) (s : State) : State :=
  (s.onDenom d fun x => { x with onHand := x.onHand + c, received := x.received + c }).append .stockIn none none
    (some d) none c (some (s.stock[d].onHand + c))

/-- STOCK_IN after the frame checks and SUPV (R72, R75). For an absent denomination the data book gives ON_HAND and
RECEIVED no value: they are free (log entry 6). -/
def stockInRequest (denom : Byte) (count : BitVec 16) (s : State) : State × Answer :=
  if count.toNat = 0 then refuse .badParameter s
  else match s.denomAt denom.toNat with
    | none =>
      (s.drawn, .result .denomAbsent (stockInData denom (Config.absentOnHand s.freeDraws).toNat
        (Config.absentCounter s.freeDraws 0).toNat s.acct.limit))
    | some d =>
      let answer (c : Code) (t : State) : State × Answer :=
        (t, .result c (stockInData denom t.stock[d].onHand t.stock[d].received t.acct.limit))
      if s.overStock d count.toNat then answer .stockCap s.setLimit
      else if s.spaceForEntry = false then answer .journalFull s
      else answer .ok (s.deliver d count.toNat)

/-! ### COUNT -/

/-- The direction code of a difference: 0 none, 1 OVER, 2 SHORT (R190). -/
def directionCode (before physical : Nat) : Byte :=
  if before < physical then 1 else if physical < before then 2 else 0

/-- The response of a COUNT: denomination, ON_HAND before and after, difference and direction, OVER, SHORT, LIMIT
(R77, R190). -/
def countData (denom : Byte) (physical before after overs shorts : Nat) (limit : Bool) : List Byte :=
  denom :: beBytes 2 before ++ beBytes 2 after ++ beBytes 2 (max before physical - min before physical) ++
    [directionCode before physical] ++ beBytes 4 overs ++ beBytes 4 shorts ++ [flagByte limit]

/-- A COUNT that finds more would pass one of the two bounds (tests 2 and 3 of R76). -/
def State.overCount (s : State) (d : Fin 16) (p : Nat) : Bool :=
  decide (s.stock[d].onHand < p) &&
    (stockCap < p + s.openStock d || counterCap < s.stockTotal d + (p - s.stock[d].onHand))

/-- The value event of a COUNT that finds a difference (R77). -/
def State.adjust (d : Fin 16) (p : Nat) (s : State) : State :=
  if s.stock[d].onHand < p then
    (s.onDenom d fun x => { x with onHand := p, overFound := x.overFound + (p - x.onHand) }).append .countAdjust none none
      (some d) (some .overage) (p - s.stock[d].onHand) (some p)
  else
    (s.onDenom d fun x => { x with onHand := p, shortFound := x.shortFound + (x.onHand - p) }).append .countAdjust none none
      (some d) (some .shortage) (s.stock[d].onHand - p) (some p)

/-- COUNT after the frame checks and SUPV (R72, R76, R77). For an absent denomination the data book gives the counters
no value: they are free, and the difference is taken from them (log entry 6). -/
def countRequest (denom : Byte) (physical : BitVec 16) (s : State) : State × Answer :=
  match s.denomAt denom.toNat with
  | none =>
    let onHand := (Config.absentOnHand s.freeDraws).toNat
    (s.drawn, .result .denomAbsent (countData denom physical.toNat onHand onHand
      (Config.absentCounter s.freeDraws 1).toNat (Config.absentCounter s.freeDraws 2).toNat s.acct.limit))
  | some d =>
    let answer (c : Code) (t : State) : State × Answer :=
      (t, .result c (countData denom physical.toNat s.stock[d].onHand t.stock[d].onHand t.stock[d].overFound t.stock[d].shortFound
        t.acct.limit))
    if s.overCount d physical.toNat then answer .stockCap s.setLimit
    else if s.stock[d].onHand = physical.toNat then answer .ok s
    else if s.spaceForEntry = false then answer .journalFull s
    else answer .ok (s.adjust d physical.toNat)

/-! ### CONSIGN -/

/-- The peer is PRESENT and its last ROLL announced ACTIVE (test 2 of R78). -/
def PeerEntry.takesConsignment (e : PeerEntry) : Bool :=
  e.presence == .present && (match e.roll with | some r => r.state == .active | none => false)

/-- The refusal of a CONSIGN that passed admission: LIMIT and the unchanged ON_HAND (R79, R190). -/
def consignRefusal (c : Code) (onHand : Nat) (s : State) : State × Answer :=
  (s, .result c (flagByte s.acct.limit :: beBytes 2 onHand))

/-- The tests 2 to 6 of R78, in order. -/
def State.consignTest (s : State) (k : Station) (d : Fin 16) (c : Nat) : Option Code :=
  if (s.peer k).takesConsignment = false then some .peerAbsent
  else if s.roomForRecord k = false then some .peerBusy
  else if s.stock[d].onHand < c then some .stockShort
  else if counterCap < s.stockTotal d + c then some .stockCap
  else if s.spaceForGive = false then some .journalFull
  else none

/-- The value event of a CONSIGN, then its GIVE on the transmit queue (R79, R141, R142). -/
def State.consign (k : Station) (d : Fin 16) (c : Nat) (s : State) : State :=
  let r := s.nextRecord k (.stock d c (s.face d))
  ((((s.onDenom d fun x => { x with onHand := x.onHand - c, outward := x.outward + c }).openRecord k r.body).append
    .giveStock (some k) (some r.serial.toNat) (some d) none c (some (s.stock[d].onHand - c)))).place r.givePayload

/-- CONSIGN after the frame checks and SUPV (R72, R78, R79). For an absent denomination the data book gives ON_HAND no
value: it is free (log entry 6). -/
def consignRequest (station denom : Byte) (count : BitVec 16) (s : State) : State × Answer :=
  match stationOf station.toNat with
  | none => refuse .badParameter s
  | some k =>
    if s.ownNumber k.val = true ∨ count.toNat = 0 then refuse .badParameter s
    else match s.denomAt denom.toNat with
      | none => consignRefusal .denomAbsent (Config.absentOnHand s.freeDraws).toNat s.drawn
      | some d =>
        match s.consignTest k d count.toNat with
        | some c => consignRefusal c s.stock[d].onHand (if c = .stockCap then s.setLimit else s)
        | none =>
          let t := s.consign k d count.toNat
          (t, .result .ok (station :: beBytes 2 t.settle.giveSerial.toNat ++ [denom] ++ beBytes 2 count.toNat ++
            beBytes 2 t.stock[d].onHand ++ beBytes 4 t.stock[d].outward))

/-! ### Stock receipt -/

/-- The tests of a stock receipt: index, face, the two bounds (R80). -/
inductive StockJudgement where
  | accepted (d : Fin 16)
  | mismatch
  | capped
  deriving DecidableEq, Repr

/-- Judge a stock receipt (R80). -/
def State.judgeStock (s : State) (index count face : Nat) : StockJudgement :=
  match s.denomAt index with
  | none => .mismatch
  | some d =>
    if s.face d ≠ face then .mismatch
    else if s.overStock d count then .capped
    else .accepted d

/-- The value event of a stock receipt (R80). -/
def State.receiveStock (g : Station) (serial : BitVec 16) (d : Fin 16) (c : Nat) (s : State) : State :=
  ((s.onDenom d fun x => { x with onHand := x.onHand + c, inward := x.inward + c }).setReceipt g serial .received).append
    .receiveStock (some g) (some serial.toNat) (some d) none c (some (s.stock[d].onHand + c))

/-! ### Meanings -/

/-- SELL (R73). -/
def execSell (denom : Byte) (count : BitVec 16) (s : State) : Host.Outcome State Fault Refusal :=
  .next (s.hostRequest (.sell denom count) none (whenActive (sellRequest denom count)))

/-- STOCK_IN (R75). -/
def execStockIn (supv : Bool) (denom : Byte) (count : BitVec 16) (s : State) : Host.Outcome State Fault Refusal :=
  .next (s.hostRequest (.stockIn denom count) (some supv) (supervised supv (whenActive (stockInRequest denom count))))

/-- COUNT (R77). -/
def execCount (supv : Bool) (denom : Byte) (physical : BitVec 16) (s : State) : Host.Outcome State Fault Refusal :=
  .next (s.hostRequest (.count denom physical) (some supv) (supervised supv (whenActive (countRequest denom physical))))

/-- CONSIGN (R78, R79). -/
def execConsign (supv : Bool) (station denom : Byte) (count : BitVec 16) (s : State) :
    Host.Outcome State Fault Refusal :=
  .next (s.hostRequest (.consign station denom count) (some supv)
    (supervised supv (whenActive (consignRequest station denom count))))

end Sys2Proof.Machine
end

