-- ==== Sys2Proof/Machine/SettlementUnit.lean ====
section
/-! DEFINITION. The settlement unit: resends, answers, incoming GIVEs and QUERYs, and the roll tick (R112, R139 to
R160). -/

namespace Sys2Proof.Machine

/-! ### Sending -/

/-- The fourth send is the last (R143). -/
def lastSend : Nat := 4

/-- One more send of a record, its wait stopped until the GIVE leaves the queue (R143). -/
def OutRecord.resent (r : OutRecord) : OutRecord := { r with sends := r.sends + 1, wait := .stopped }

/-- The answer wait of a record runs out: an identical GIVE, or after the fourth send the strand (R143). -/
def State.waitRunsOut (r : OutRecord) (s : State) : State :=
  if r.sends < lastSend then
    (s.onSettle fun u => { u with records := updateRecord (·.isOf r.receiver r.serial) OutRecord.resent u.records }).place
      r.givePayload
  else s.strand r

/-- An UNSETTLED record whose answer wait is running (R139). -/
def OutRecord.waits (r : OutRecord) : Bool := r.state == .unsettled && r.wait != .stopped

/-! ### Answers at the giver -/

/-- A GOT or HAVE settles the record it matches; while PARKED it is ignored (R144). -/
def State.answerSettles (k : Station) (serial : BitVec 16) (s : State) : State :=
  match s.matched k serial with
  | some r => if s.ctl.state = .parked then s else s.settleRecord r
  | none => s

/-- A VOID or NOHAVE restores the record it matches; while PARKED it is ignored (R144). -/
def State.answerRestores (k : Station) (serial : BitVec 16) (s : State) : State :=
  match s.matched k serial with
  | some r => if s.ctl.state = .parked then s else s.restoreRecord r
  | none => s

/-- A DEFER strands the UNSETTLED record it matches; on a STRANDED record it changes nothing (R144). -/
def State.answerDefers (k : Station) (serial : BitVec 16) (s : State) : State :=
  match s.matched k serial with
  | some r => if r.state = .unsettled then s.strand r else s
  | none => s

/-! ### Incoming GIVE and QUERY -/

/-- An answer to a giver (R148). -/
def State.reply (kind : ReplyKind) (g : Station) (serial : BitVec 16) (s : State) : State :=
  s.place (.reply kind (.ofNat 8 g.val) serial)

/-- A void: the entry becomes VOIDED, then VOID is placed (R152). -/
def State.voidGive (g : Station) (serial : BitVec 16) (s : State) : State :=
  (s.setReceipt g serial .voided).reply .void g serial

/-- The value event of a credit receipt (R10, R150). -/
def State.receiveCredit (g : Station) (serial : BitVec 16) (a : Nat) (s : State) : State :=
  (((s.onAcct fun x => { x with taken := x.taken + a }).setCredit (s.acct.credit + a)).setReceipt g serial .received).append
    .receiveCredit (some g) (some serial.toNat) none none a (some (s.acct.credit + a))

/-- A credit receipt would pass a cap (R10). -/
def State.receiptOver (s : State) (a : Nat) : Bool :=
  creditCap < s.committedCredit + a || ascendingCap < s.ascendingTotal + a

/-- Case 6: a credit GIVE of a newer serial, with the balancer's outcome (R150). DESIGN CHOICE: the caller hears the outcome
in this step, before it takes a wake that the receipt's own move of the standing releases (R13, R127; log entry 39). -/
def State.newCredit (g : Station) (serial : BitVec 16) (a : Nat) (s : State) : State :=
  if a = 0 then (s.voidGive g serial).giveOutcome g .voided
  else if s.receiptOver a then (s.setLimit.voidGive g serial).giveOutcome g .voided
  else ((s.receiveCredit g serial a).reply .got g serial).giveOutcome g .credited

/-- Case 7: a stock GIVE of a newer serial (R151). -/
def State.newStock (g : Station) (serial : BitVec 16) (index count face : Nat) (s : State) : State :=
  if count = 0 then s.voidGive g serial
  else match s.judgeStock index count face with
    | .mismatch => s.voidGive g serial
    | .capped => s.setLimit.voidGive g serial
    | .accepted d => (s.receiveStock g serial d count).reply .got g serial

/-- Cases 4 and 5: DEFER; for a credit GIVE the balancer is told (R149, R150). -/
def State.deferGive (g : Station) (serial : BitVec 16) (body : GiveBody) (s : State) : State :=
  let t := s.reply .defer g serial
  match body with
  | .credit _ => t.giveOutcome g .deferred
  | .stock _ _ _ => t

/-- An incoming GIVE, judged in the order of R148. -/
def State.takeGive (g : Station) (serial : BitVec 16) (body : GiveBody) (s : State) : State :=
  match judge (s.receipt g) serial with
  | .older => s
  | .equal .received => s.reply .got g serial
  | .equal .voided => s.reply .void g serial
  | .newer =>
    if s.ctl.state = .parked then s.deferGive g serial body
    else if s.spaceForEntry = false then s.deferGive g serial body
    else match body with
      | .credit a => s.newCredit g serial a.toNat
      | .stock d c f => s.newStock g serial d.toNat c.toNat f.toNat

/-- An incoming QUERY (R153). -/
def State.takeQuery (g : Station) (serial : BitVec 16) (s : State) : State :=
  match judge (s.receipt g) serial with
  | .older => s
  | .equal .received => s.reply .haveIt g serial
  | .equal .voided => s.reply .nohave g serial
  | .newer => (s.setReceipt g serial .voided).reply .nohave g serial

/-! ### The roll tick -/

/-- A QUERY of the record waits on the transmit queue, not in progress (R154; log entry 16). -/
def State.queryWaits (s : State) (r : OutRecord) : Bool :=
  s.line.tx.any fun e => e.payload.isQueryOf r.receiver r.serial && !e.inProgress

/-- A STRANDED record is queried when its receiver is PRESENT and no QUERY of it waits (R154). -/
def State.queryRecord (r : OutRecord) (s : State) : State :=
  if r.state = .stranded ∧ (s.peer r.receiver).presence = .present ∧ s.queryWaits r = false then
    s.place (.query (.ofNat 8 r.receiver.val) r.serial)
  else s

/-- The settlement unit's share of a roll tick: the STRANDED records in list order, in ACTIVE and PARKING (R154). -/
def State.settlementTick (s : State) : State :=
  if s.ctl.state = .active ∨ s.ctl.state = .parking then s.settle.records.foldl (fun t r => t.queryRecord r) s else s

/-- One share of a roll tick (R112). -/
def State.tickShare (s : State) : TickShare → State
  | .roll => s.formRoll
  | .balancer => s.balancerTick
  | .settlement => s.settlementTick

/-- The shares of a roll tick in their order. -/
def tickShares : TickOrder → List TickShare
  | .rollBalancerSettlement => [.roll, .balancer, .settlement]
  | .rollSettlementBalancer => [.roll, .settlement, .balancer]
  | .balancerRollSettlement => [.balancer, .roll, .settlement]
  | .balancerSettlementRoll => [.balancer, .settlement, .roll]
  | .settlementRollBalancer => [.settlement, .roll, .balancer]
  | .settlementBalancerRoll => [.settlement, .balancer, .roll]

/-- The roll timer starts again: the next tick comes one ROLL_PERIOD later (R112). -/
def State.restartRollTimer (s : State) : State :=
  s.onLine fun l => { l with rollTimer := .running (1000 * s.ctl.config.rollPeriod.value) }

/-- A roll tick (R112). -/
def State.rollTick (order : TickOrder) (s : State) : State :=
  (tickShares order).foldl State.tickShare s.restartRollTimer

/-! ### Meanings -/

/-- ROLL_TICK (R112). -/
def execRollTick (order : TickOrder) (s : State) : Host.Outcome State Fault Refusal :=
  .next (if s.active then s.rollTick order else s)

/-- ANSWER_WAIT of the record to k (R143); a wait that is stopped does not run out. -/
def execAnswerWait (k : Station) (s : State) : Host.Outcome State Fault Refusal :=
  .next (match s.active, s.settle.records.find? (·.receiver == k) with
    | true, some r => if r.waits then s.waitRunsOut r else s
    | _, _ => s)

/-- GIVE: the settlement unit takes the GIVE handed to it (R148). -/
def execGiveFrame (s : State) : Host.Outcome State Fault Refusal :=
  .next (match s.active, s.line.toSettlement with
    | true, some { sender := g, payload := .give _ serial body } => (s.frameTakenBy .settlement).takeGive g serial body
    | _, _ => s)

/-- GOT: the settlement unit takes the GOT handed to it (R144). -/
def execGotFrame (s : State) : Host.Outcome State Fault Refusal :=
  .next (match s.active, s.line.toSettlement with
    | true, some { sender := k, payload := .reply .got _ serial } => (s.frameTakenBy .settlement).answerSettles k serial
    | _, _ => s)

/-- HAVE: the settlement unit takes the HAVE handed to it (R144). -/
def execHaveFrame (s : State) : Host.Outcome State Fault Refusal :=
  .next (match s.active, s.line.toSettlement with
    | true, some { sender := k, payload := .reply .haveIt _ serial } => (s.frameTakenBy .settlement).answerSettles k serial
    | _, _ => s)

/-- VOID: the settlement unit takes the VOID handed to it (R144). -/
def execVoidFrame (s : State) : Host.Outcome State Fault Refusal :=
  .next (match s.active, s.line.toSettlement with
    | true, some { sender := k, payload := .reply .void _ serial } => (s.frameTakenBy .settlement).answerRestores k serial
    | _, _ => s)

/-- NOHAVE: the settlement unit takes the NOHAVE handed to it (R144). -/
def execNohaveFrame (s : State) : Host.Outcome State Fault Refusal :=
  .next (match s.active, s.line.toSettlement with
    | true, some { sender := k, payload := .reply .nohave _ serial } => (s.frameTakenBy .settlement).answerRestores k serial
    | _, _ => s)

/-- DEFER: the settlement unit takes the DEFER handed to it (R144). -/
def execDeferFrame (s : State) : Host.Outcome State Fault Refusal :=
  .next (match s.active, s.line.toSettlement with
    | true, some { sender := k, payload := .reply .defer _ serial } => (s.frameTakenBy .settlement).answerDefers k serial
    | _, _ => s)

/-- QUERY: the settlement unit takes the QUERY handed to it (R153). -/
def execQueryFrame (s : State) : Host.Outcome State Fault Refusal :=
  .next (match s.active, s.line.toSettlement with
    | true, some { sender := g, payload := .query _ serial } => (s.frameTakenBy .settlement).takeQuery g serial
    | _, _ => s)

end Sys2Proof.Machine
end

