-- ==== Sys2Proof/Machine/Lifecycle.lean ====
section
/-! DEFINITION. Station control, configuration, the timebase, the resets and the supplies (R161 to R177, R186 to
R188). -/

namespace Sys2Proof.Machine

/-! ### PARK and RESUME -/

/-- PARK acts by state: an ACTIVE station enters PARKING, its caller returns to IDLE, and R164's condition is tested
at once (R134, R163). -/
def State.park (s : State) : State :=
  if s.ctl.state = .active then
    ((s.onCtl fun c => { c with state := .parking }).onBal Balancer.toIdle).notice
  else s

/-- PARK after the frame checks, SUPV and the state test (R163). -/
def parkRequest (s : State) : State × Answer :=
  let t := s.park
  (t, .result .ok (t.ctl.state.code :: beBytes 1 t.resv.table.length ++ beBytes 1 t.unsettledCount))

/-- RESUME acts by state: PARKING and PARKED return to ACTIVE, the image is discarded (R165). DESIGN CHOICE: a wake released
before it and not yet taken stays counted, so it can be taken in ACTIVE before the next roll tick; RESUME adds none (log entry
45). -/
def State.resume (s : State) : State :=
  if s.ctl.state = .parking ∨ s.ctl.state = .parked then
    s.onCtl fun c => { c with state := .active, image := [] }
  else s

/-- RESUME after the frame checks, SUPV and the state test (R165). -/
def resumeRequest (s : State) : State × Answer :=
  let t := s.resume
  (t, .result .ok [s.ctl.state.code, t.ctl.state.code])

/-! ### Configuration -/

/-- An item set to a value. -/
def Setting.written (v : Nat) : Setting := { value := v, isSet := true }

/-- A value stored as the nearest end of its range (R187). -/
def clampTo (lo hi v : Nat) : Nat := max lo (min hi v)

/-- CONFIRM_MODE from its code (R187). -/
def confirmModeOf (v : Nat) : Option ConfirmMode :=
  if v = 0 then some .immediate else if v = 1 then some .window else if v = 2 then some .extended else none

/-- Store a value in an item: none when a refused item's value is outside its range (R187). -/
def ConfigStore.store (c : ConfigStore) (item index : Nat) (value : BitVec 64) : Option ConfigStore :=
  let v := value.toNat
  if h : item = 14 ∧ index < 16 then
    if 1 ≤ v ∧ v ≤ 65535 then some { c with faces := c.faces.set index (some v) h.2 } else none
  else match item with
    | 0 => (stationOf v).map fun k => { c with station := some k }
    | 1 => if v ≤ 65535 then some { c with branch := .written v } else none
    | 2 => some { c with key := value, keySet := true }
    | 3 => if v ≤ creditCap then some { c with low := .written v } else none
    | 4 => if v ≤ creditCap then some { c with target := .written v } else none
    | 5 => if v ≤ creditCap then some { c with high := .written v } else none
    | 6 => some { c with minTransfer := .written (clampTo 100 100000 v) }
    | 7 => some { c with rollPeriod := .written (clampTo 1 60 v) }
    | 8 => (confirmModeOf v).map fun m => { c with confirmMode := m, confirmModeSet := true }
    | 9 => some { c with window := .written (clampTo 2 30 v) }
    | 10 => some { c with inspectDays := .written (clampTo 1 120 v) }
    | 11 => some { c with graceDays := .written (clampTo 0 14 v) }
    | 12 => if v ≤ 65535 then some { c with day := some v } else none
    | 13 => if v ≤ 16 then some { c with denomCount := .written v } else none
    | _ => none

/-- Item, index, set flag and stored value after a CONFIG_SET (R187, R190). -/
def State.configData (s : State) (item index : Byte) : List Byte :=
  match s.ctl.config.item item.toNat index.toNat with
  | some v => configBytes (s.freeBytes 8) item.toNat index.toNat v.1 v.2
  | none => []

/-- CONFIG_SET after the frame checks and SUPV (R187). The refused value of an item that holds none is free (log
entry 7). -/
def configSetRequest (item index : Byte) (value : BitVec 64) (s : State) : State × Answer :=
  if s.ctl.state ≠ .unconfigured then refuse .wrongState s
  else if (s.ctl.config.item item.toNat index.toNat).isNone then refuse .badParameter s
  else match s.ctl.config.store item.toNat index.toNat value with
    | none => (s.drawn, .result .configInvalid (s.configData item index))
    | some c =>
      let t := s.onCtl fun u => { u with config := c }
      (t, .result .ok (t.configData item index))

/-- Every FACE below DENOM_COUNT is set (test 5 of R188). -/
def ConfigStore.facesSet (c : ConfigStore) : Bool :=
  (List.finRange 16).all fun i => c.denomCount.value ≤ i.val || c.faces[i].isSome

/-- The tests of a commit in order: the code of the item concerned (R188). -/
def ConfigStore.commitTest (c : ConfigStore) : Option Byte :=
  if c.station.isNone then some 0
  else if c.day.isNone then some 12
  else if ¬ c.low.value < c.target.value then some 3
  else if ¬ c.target.value < c.high.value then some 5
  else if c.facesSet = false then some 14
  else none

/-- FACE entries at or above DENOM_COUNT are discarded (R188). -/
def ConfigStore.committed (c : ConfigStore) : ConfigStore :=
  { c with faces := Vector.ofFn fun i => if i.val < c.denomCount.value then c.faces[i] else none }

/-- The line controller after commit and after each reset of a committed station: the first roll tick is due at once,
and the self entry has no roll content (R112, R121); its second begins at 0 ms (log entry 42). -/
def LineController.started (own : Option Station) : LineController :=
  { LineController.inactive with
    rollTimer := .running 0,
    peers := match own with
      | some k => LineController.inactive.peers.set k.slot (PeerEntry.selfEntry none)
      | none => LineController.inactive.peers }

/-- The timebase after commit: the configured DAY, valid, nothing counted (R171, R176). -/
def Timebase.committed (day : Nat) : Timebase :=
  { seconds := 0, subMs := 0, day := day, valid := true, timeLost := false, lastRecorded := day, inspection := 0 }

/-- An accepted commit: the configuration is fixed, every block takes its values after commit, the station is ACTIVE,
LOW_CREDIT latches and the balancer is woken (R13, R22, R24, R48, R66, R68, R84, R121, R137, R159, R162, R171, R188). -/
def State.commit (s : State) : State :=
  { s with
    acct := Account.zero, tariff := TariffStore.initial,
    resv := { ReservationUnit.initial with elapsedMs := s.resv.elapsedMs },
    stock := Vector.replicate 16 Denom.zero, journal := Journal.empty,
    line := LineController.started s.ctl.config.station,
    bal := { Balancer.initial with wakes := 1 },
    settle := SettlementUnit.initial,
    time := Timebase.committed (s.ctl.config.day.getD 0),
    ctl := { state := .active, config := s.ctl.config.committed, image := [] } }.latch .lowCredit

/-- CONFIG_COMMIT after the frame checks and SUPV (R188). -/
def configCommitRequest (s : State) : State × Answer :=
  if s.ctl.state ≠ .unconfigured then refuse .wrongState s
  else match s.ctl.config.commitTest with
    | some item => (s, .result .configInvalid [item])
    | none =>
      let t := s.commit
      (t, .result .ok (beBytes 1 t.stationNumber ++ [t.ctl.state.code]))

/-! ### The day -/

/-- A SET_DAY that passes its tests (R175), then the tariff store takes it (R35). -/
def State.setDay (day seconds : Nat) (s : State) : State :=
  ((s.raiseInspection (day - s.time.lastRecorded)).onTime fun t =>
    { t with day := day, lastRecorded := day, seconds := seconds, subMs := 0, timeLost := false }).tariffDay

/-- SET_DAY after the frame checks and SUPV: admission and the tests of R175 in order. -/
def setDayRequest (day : BitVec 16) (seconds : BitVec 32) (s : State) : State × Answer :=
  if s.ctl.state = .unconfigured then refuse .wrongState s
  else if 86399 < seconds.toNat then refuse .badParameter s
  else if s.time.timeLost = false then refuse .wrongState s
  else if day.toNat < s.time.lastRecorded then refuse .dayBackward s
  else
    let t := s.setDay day.toNat seconds.toNat
    (t, .setDayReport t.time.day t.time.inspection t.inspection)

/-- The day number after d; 65,535 stays (R172). -/
def dayAfter (d : Nat) : Nat := min (d + 1) 65535

/-- A day advance with main power on: the day rises and is recorded, the inspection count rises, the tariff store takes
it (R172, R35, R176). -/
def State.dayAdvance (s : State) : State :=
  (((s.onTime fun t => { t with seconds := 0, subMs := 0, day := dayAfter t.day, lastRecorded := dayAfter t.day }).raiseInspection
    1)).tariffDay

/-- A day advance while main power is off: the backup domain alone counts it; the store, the tariff and the inspection
count take it at the next reset (R171, R173). -/
def State.dayOnBackup (s : State) : State :=
  s.onTime fun t => { t with seconds := 0, subMs := 0, day := dayAfter t.day }

/-- The day runs: the station is committed, TIME_LOST is clear (R172), and the backup domain holds its content. -/
def State.dayRuns (s : State) : Bool := s.committed && !s.time.timeLost && s.time.valid

/-! ### Reset -/

/-- The milliseconds of a day. -/
def dayMs : Nat := 86400000

/-- The time of day some milliseconds later, counted by the backup domain alone: seconds-of-day and the day number count
on, 65,535 stays, and no day is recorded (R171, R172). -/
def Timebase.countOn (ms : Nat) (t : Timebase) : Timebase :=
  let passed := 1000 * t.seconds + t.subMs + ms
  { t with day := min (t.day + passed / dayMs) 65535, seconds := passed / 1000 % 86400, subMs := passed % 1000 }

/-- RESETN held low: where the day runs it counts on in the backup domain, and the reset work that follows catches up the
days counted (R173). DESIGN CHOICE: the whole hold is one step with the reset work, and how long the outside holds RESETN
low is a free value (log entry 25). -/
def State.holdReset (s : State) : State :=
  if s.dayRuns then (s.onTime (Timebase.countOn (Config.resetHeldMs s.freeDraws))).drawn else s

/-- The test of power-on reset: a lost mark sets the day back to the last recorded day and sets TIME_LOST (R173). While
UNCONFIGURED the timebase is held, and only the mark is made valid again (R171; log entry 11). -/
def State.markTest (s : State) : State :=
  if s.time.valid then s
  else if s.committed then
    s.onTime fun t => { t with day := t.lastRecorded, seconds := 0, subMs := 0, timeLost := true, valid := true }
  else s.onTime fun _ => Timebase.held

/-- The catch-up: with TIME_LOST clear, the days counted since the last recorded day join the inspection count and are
recorded (R173). -/
def State.catchUp (s : State) : State :=
  if s.time.timeLost = false ∧ s.time.lastRecorded < s.time.day then
    (s.raiseInspection (s.time.day - s.time.lastRecorded)).onTime fun t => { t with lastRecorded := t.day }
  else s

/-- The tariff store's reset test (R37). -/
def State.tariffReset (s : State) : State := if s.time.timeLost then s else s.tariffDay

/-- The volatile state is rebuilt and an incomplete record is discarded (R15, R24, R32, R67, R121, R137, R186). -/
def State.rebuild (s : State) : State :=
  { s with
    host := { HostPort.initial with rdy := false },
    tariff := { s.tariff with assembly := none },
    line := if s.committed then LineController.started s.ctl.config.station else LineController.inactive,
    bal := Balancer.initial, power := .on, incomplete := false }

/-- The alerts re-latched from the conditions that hold, for a committed station; the two level alerts need no latch
(R186). -/
def State.relatch (s : State) : State :=
  if s.committed then
    (s.latchIf (s.settle.records.any fun r => r.state == .stranded) .stranded).latchIf s.standing.short .lowCredit
  else s

/-- The reset closures: every open reservation is charged as printed (R67). -/
def State.closeReservations (s : State) : State :=
  ((s.resv.table.foldl (fun t r => t.closeAsPrinted r) s).onResv fun u => { u with nextId := 1, elapsedMs := 0 }).latchIf
    (!s.resv.table.isEmpty) .reservationExpired

/-- Every UNSETTLED record becomes STRANDED, every answer wait is stopped (R160). -/
def State.strandAll (s : State) : State :=
  s.onSettle fun u => { u with records := u.records.map OutRecord.stranded }

/-- The active generation an image formed at a reset gives in its header, from those before and after the tariff
store's reset test; the data book does not order the two (R167, R37; log entry 9). -/
def resetImageGeneration (draw before after : Nat) : Nat :=
  if before = after then after else if Config.imageBeforeSwitch draw then before else after

/-- Station control looks at its state after the reset work: PARKING becomes PARKED with an image (R170). -/
def State.parkAtReset (generationBefore : Nat) (s : State) : State :=
  if s.ctl.state = .parking then
    (s.enterParked (resetImageGeneration s.freeDraws generationBefore s.activeGeneration)).drawn
  else s

/-- The reset work of every block, in the order the data book gives: store and volatile state, closures, strands, the
timebase, the tariff store, station control; the alerts are re-latched after the strands and before those the work
itself latches; RDY goes high last (R23, R37, R67, R99, R160, R170, R173, R177, R186). DESIGN CHOICE: the whole work is one
step, though it makes several store records (log entry 47). -/
def State.resetWork (powerOn : Bool) (s : State) : State :=
  let stored := s.rebuild.strandAll.relatch
  let closed := stored.closeReservations
  let timed := (if powerOn then closed.markTest else closed).catchUp
  (timed.tariffReset.parkAtReset timed.activeGeneration).onHost fun h => { h with rdy := true }

/-! ### Meanings -/

/-- SET_DAY (R175). -/
def execSetDay (supv : Bool) (day : BitVec 16) (seconds : BitVec 32) (s : State) : Host.Outcome State Fault Refusal :=
  .next (s.hostRequest (.setDay day seconds) (some supv) (supervised supv (setDayRequest day seconds)))

/-- PARK (R163). -/
def execPark (supv : Bool) (s : State) : Host.Outcome State Fault Refusal :=
  .next (s.hostRequest .park (some supv) (supervised supv (whenCommitted parkRequest)))

/-- RESUME (R165). -/
def execResume (supv : Bool) (s : State) : Host.Outcome State Fault Refusal :=
  .next (s.hostRequest .resume (some supv) (supervised supv (whenCommitted resumeRequest)))

/-- CONFIG_SET (R187). -/
def execConfigSet (supv : Bool) (item index : Byte) (value : BitVec 64) (s : State) :
    Host.Outcome State Fault Refusal :=
  .next (s.hostRequest (.configSet item index value) (some supv) (supervised supv (configSetRequest item index value)))

/-- CONFIG_COMMIT (R188). -/
def execConfigCommit (supv : Bool) (s : State) : Host.Outcome State Fault Refusal :=
  .next (s.hostRequest .configCommit (some supv) (supervised supv configCommitRequest))

/-- DAY_ADVANCE (R172). -/
def execDayAdvance (s : State) : Host.Outcome State Fault Refusal :=
  .next (if s.dayRuns then (if s.powered then s.dayAdvance else s.dayOnBackup) else s)

/-- RESETN: held low for some time, then the reset work (R173, R186). Without main power there is nothing to reset. -/
def execResetn (s : State) : Host.Outcome State Fault Refusal :=
  .next (if s.powered then s.holdReset.resetWork false else s)

/-- POWER_ON_RESET (R173). -/
def execPowerOnReset (s : State) : Host.Outcome State Fault Refusal := .next (s.resetWork true)

/-- POWER_LOSS: main power goes off and RDY with it; a record being written stays incomplete in the store (R15). -/
def execPowerLoss (midRecord : Bool) (s : State) : Host.Outcome State Fault Refusal :=
  .next (if s.powered then
    { s.onHost (fun h => { h with rdy := false, answer := none }) with power := .off, incomplete := midRecord }
  else s)

/-- BACKUP_LOSS: with main power off the backup domain loses its content and the mark is lost (R171). What it then holds
is free (log entry 8). -/
def execBackupLoss (s : State) : Host.Outcome State Fault Refusal :=
  .next (if s.powered then s
    else (s.onTime fun t =>
      { t with valid := false, day := (Config.lostDay s.freeDraws).toNat, seconds := (Config.lostSeconds s.freeDraws).val,
               subMs := 0, timeLost := Config.lostTimeLost s.freeDraws }).drawn)

end Sys2Proof.Machine
end

