-- ==== Sys2Proof/Machine/TariffStore.lean ====
section
/-! DEFINITION. The tariff store's commands (R26 to R34) and the rating unit (R38 to R44). -/

namespace Sys2Proof.Machine

/-! ### Loading -/

/-- TARIFF_OPEN clears the staged bank and makes it OPEN (R27). -/
def tariffOpenRequest (s : State) : State × Answer :=
  let t := s.onTariff fun u =>
    { u with stagedState := .opened, staged := BankContent.empty, stagedGeneration := 0, effectiveDay := 0,
             assembly := none }
  (t, .result .ok (StagedState.opened.code :: beBytes 1 t.activeGeneration))

/-- A TARIFF_CLASS is taken only while the staged bank is OPEN (R28). -/
def whenOpened (run : State → State × Answer) (s : State) : State × Answer :=
  if s.tariff.stagedState = .opened then run s else refuse .wrongState s

/-- A surcharge part replaces the staged surcharge table (R29); it fits only the surcharge target, 8 (R28). The
three fields of its response that the data book gives no value are free (log entry 7). -/
def tariffSurchargeRequest (target : Byte) (values : Vector (BitVec 16) 8) (s : State) : State × Answer :=
  if target.toNat = 8 then
    ((s.onTariff fun u => { u with staged := { u.staged with surcharges := values } }).drawn,
      .result .ok (target :: s.freeBytes 3))
  else refuse .badParameter s

/-- A rounding code: 0 UP, 1 HALF, others fail (R190). -/
def roundingOf (code : Byte) : Option Rounding :=
  if code = 0 then some .up else if code = 1 then some .half else none

/-- The tests of a head: rounding mode, zone count 1 to 16, factors 32,768 to 262,144, band count 1 to 12 (R30). -/
def headAssembly (c : Fin 8) (rounding services bandCount : Byte) (factors : List (BitVec 24)) : Option Assembly :=
  match roundingOf rounding with
  | none => none
  | some r =>
    if 1 ≤ factors.length ∧ factors.length ≤ 16 ∧
        (factors.all fun f => 32768 ≤ f.toNat && f.toNat ≤ 262144) = true ∧
        1 ≤ bandCount.toNat ∧ bandCount.toNat ≤ 12 then
      some { cls := c, rounding := r, factors := factors.map (·.toNat), services := services,
             bandCount := bandCount.toNat, bands := [] }
    else none

/-- A head part ends any class assembly and, when its tests pass, opens one for its class (R30). -/
def tariffHeadRequest (target rounding services bandCount : Byte) (factors : List (BitVec 24)) (s : State) :
    State × Answer :=
  if h : target.toNat < 8 then
    match headAssembly ⟨target.toNat, h⟩ rounding services bandCount factors with
    | some a => (s.onTariff fun u => { u with assembly := some a }, .result .ok [target, bandCount, 0, 0])
    | none => (s.onTariff fun u => { u with assembly := none }, .result .tariffFormat [])
  else refuse .badParameter s

/-- The band a band part spells. -/
def bandOf (b : BandFields) : Band :=
  { upper := b.upper.toNat, base := b.base.toNat, stepSize := b.stepSize.toNat, stepCharge := b.stepCharge.toNat }

/-- Bands pass in order: upper weights 1 to 20,000 and rising from the one before, base charge, step size and step
charge within range (R25, R31). -/
def bandsPass : Nat → List Band → Bool
  | _, [] => true
  | before, b :: bs =>
    1 ≤ b.upper && b.upper ≤ 20000 && before < b.upper && b.base ≤ 99999000 && b.stepSize ≤ 20000 &&
      b.stepCharge ≤ 9999000 && bandsPass b.upper bs

/-- The upper weight of the last band, 0 when there is none. -/
def lastUpper (bands : List Band) : Nat :=
  match bands.getLast? with
  | some b => b.upper
  | none => 0

/-- The class record of a complete assembly (R32). -/
def Assembly.record (a : Assembly) : ClassRecord :=
  { rounding := a.rounding, factors := a.factors, services := a.services, bands := a.bands }

/-- The open assembly takes bands; when it has all its bands the class is written and the assembly ends (R31, R32). -/
def State.assemble (a : Assembly) (s : State) : State :=
  if a.bands.length = a.bandCount then
    s.onTariff fun u =>
      { u with staged := { u.staged with classes := u.staged.classes.set a.cls (some a.record) }, assembly := none }
  else s.onTariff fun u => { u with assembly := some a }

/-- A band part is refused BAD_PARAMETER unless it fits the open assembly (R31). -/
def bandsFit (a : Assembly) (target first : Byte) (bands : List BandFields) : Bool :=
  a.cls.val == target.toNat && first.toNat == a.bands.length && 1 ≤ bands.length && bands.length ≤ 4 &&
    first.toNat + bands.length ≤ a.bandCount

/-- A band part appends tested bands to the open class assembly (R31, R32). -/
def tariffBandsRequest (target first : Byte) (bands : List BandFields) (s : State) : State × Answer :=
  match s.tariff.assembly with
  | none => refuse .badParameter s
  | some a =>
    if bandsFit a target first bands then
      if bandsPass (lastUpper a.bands) (bands.map bandOf) then
        let b := { a with bands := a.bands ++ bands.map bandOf }
        (s.assemble b,
          .result .ok (target :: beBytes 1 b.bandCount ++ beBytes 1 b.bands.length ++
            [flagByte (decide (b.bands.length = b.bandCount))]))
      else (s.onTariff fun u => { u with assembly := none }, .result .tariffFormat [])
    else refuse .badParameter s

/-- TARIFF_CLOSE: the assembly ends, the generation is tested, and the bank becomes READY or switches at once (R33).
DESIGN CHOICE: a close that switches at once is one step with its switch, so one that is interrupted leaves the bank OPEN, as
R26 has it, and not READY, as R34 has it of a switch (log entry 40). -/
def tariffCloseRequest (generation : Byte) (day : BitVec 16) (s : State) : State × Answer :=
  if s.tariff.stagedState ≠ .opened then refuse .wrongState s
  else if generation.toNat ≤ s.activeGeneration then
    (s.onTariff fun u => { u with assembly := none }, .result .tariffGeneration [])
  else
    let t := (s.onTariff fun u =>
      { u with assembly := none, stagedState := .ready, stagedGeneration := generation.toNat,
               effectiveDay := day.toNat }).tariffDay
    (t, .result .ok (t.tariff.stagedState.code :: beBytes 1 t.activeGeneration ++ beBytes 1 t.tariff.stagedGeneration ++
      beBytes 2 t.tariff.effectiveDay))

/-! ### Rating -/

/-- Stage 2: the first band whose upper weight is at or above w, with its lower bound (R40). -/
def bandFor (w : Nat) : Nat → List Band → Option (Nat × Band)
  | _, [] => none
  | lo, b :: bs => if w ≤ b.upper then some (lo, b) else bandFor w b.upper bs

/-- Stage 3: the band charge in mc; a started step counts as a whole step (R41). -/
def bandCharge (w lo : Nat) (b : Band) : Nat :=
  if b.stepSize = 0 then b.base else b.base + (w - lo + b.stepSize - 1) / b.stepSize * b.stepCharge

/-- Stage 4: the zone charge in mc, the remainder discarded (R42). -/
def zoneCharge (charge factor : Nat) : Nat := charge * factor / 65536

/-- Stage 5: the zone charge in whole cents (R43). -/
def roundCents (r : Rounding) (z : Nat) : Nat :=
  match r with
  | .up => z / 1000 + if 0 < z % 1000 then 1 else 0
  | .half => z / 1000 + if 500 ≤ z % 1000 then 1 else 0

/-- The surcharges of the services in a mask, summed in cents (R44). DESIGN CHOICE: service n is bit n of the mask byte from
the least significant (log entry 41). -/
def surchargeSum (table : Vector (BitVec 16) 8) (services : Byte) : Nat :=
  ((List.finRange 8).map fun i => if services.getLsbD i.val then table[i].toNat else 0).sum

/-- Stage 1, the checks against the class record: the code of the first that fails (R39). -/
def itemCheck (c : ClassRecord) (i : Item) : Option Code :=
  if ¬(1 ≤ i.weight.toNat ∧ i.weight.toNat ≤ lastUpper c.bands) then some .weightRange
  else if c.factors.length ≤ i.zone.toNat then some .zoneRange
  else if i.services &&& ~~~c.services ≠ 0 then some .serviceNotOffered
  else none

/-- Stages 2 to 6: the value of a checked item in cents, before the cap (R40 to R44). -/
def itemValue (content : BankContent) (c : ClassRecord) (i : Item) : Nat :=
  match bandFor i.weight.toNat 0 c.bands with
  | none => 0
  | some (lo, b) =>
    roundCents c.rounding (zoneCharge (bandCharge i.weight.toNat lo b) (c.factors.getD i.zone.toNat 0)) +
      surchargeSum content.surcharges i.services

/-- The six stages for one item against the active bank's content: its class and value, or its code (R39 to R44). -/
def rateItem (content : BankContent) (i : Item) : Except Code (Fin 8 × Nat) :=
  if h : i.cls.toNat < 8 then
    match content.classes[i.cls.toNat] with
    | none => .error .classAbsent
    | some c =>
      match itemCheck c i with
      | some code => .error code
      | none =>
        if 99999 < itemValue content c i then .error .itemCap
        else .ok (⟨i.cls.toNat, h⟩, itemValue content c i)
  else .error .classAbsent

/-- Every item of a batch in order; the first refusal ends the rating, with the item's index (R38). -/
def rateBatch (content : BankContent) : Nat → List Item → Except (Code × Nat) (List (Fin 8 × Nat))
  | _, [] => .ok []
  | n, i :: is =>
    match rateItem content i with
    | .error c => .error (c, n)
    | .ok v =>
      match rateBatch content (n + 1) is with
      | .error e => .error e
      | .ok vs => .ok (v :: vs)

/-! ### Meanings -/

/-- TARIFF_OPEN (R27). -/
def execTariffOpen (supv : Bool) (s : State) : Host.Outcome State Fault Refusal :=
  .next (s.hostRequest .tariffOpen (some supv) (supervised supv (whenActive tariffOpenRequest)))

/-- TARIFF_CLASS with a surcharge part (R29). -/
def execTariffClassSurcharge (supv : Bool) (target : Byte) (values : Vector (BitVec 16) 8) (s : State) :
    Host.Outcome State Fault Refusal :=
  .next (s.hostRequest (.tariffSurcharge target values) (some supv)
    (supervised supv (whenActive (whenOpened (tariffSurchargeRequest target values)))))

/-- TARIFF_CLASS with a head part (R30). -/
def execTariffClassHead (supv : Bool) (target rounding services bandCount : Byte) (factors : List (BitVec 24))
    (s : State) : Host.Outcome State Fault Refusal :=
  .next (s.hostRequest (.tariffHead target rounding services bandCount factors) (some supv)
    (supervised supv (whenActive (whenOpened (tariffHeadRequest target rounding services bandCount factors)))))

/-- TARIFF_CLASS with a band part (R31). -/
def execTariffClassBands (supv : Bool) (target first : Byte) (bands : List BandFields) (s : State) :
    Host.Outcome State Fault Refusal :=
  .next (s.hostRequest (.tariffBands target first bands) (some supv)
    (supervised supv (whenActive (whenOpened (tariffBandsRequest target first bands)))))

/-- TARIFF_CLOSE (R33). -/
def execTariffClose (supv : Bool) (generation : Byte) (day : BitVec 16) (s : State) :
    Host.Outcome State Fault Refusal :=
  .next (s.hostRequest (.tariffClose generation day) (some supv) (supervised supv (whenActive (tariffCloseRequest generation day))))

end Sys2Proof.Machine
end

