-- ==== Sys2Proof/Machine/ReservationUnit.lean ====
section
/-! DEFINITION. The reservation unit: IMPRINT, CONFIRM, deadlines, hard limits and PBUSY (R48 to R67). -/

namespace Sys2Proof.Machine

/-! ### IMPRINT -/

/-- The data of a refused IMPRINT that passed admission: item index (0xFF when no item), batch total, CREDIT, standing,
LIMIT; a field its case does not name is 0 (R56, R190). -/
def State.imprintRefusal (s : State) (c : Code) : State × Answer :=
  (s, .result c ([0xFF] ++ beBytes 3 0 ++ beBytes 4 0 ++ [0, flagByte s.acct.limit]))

/-- The refusal of an item by rating: its code and index; ITEM_CAP sets LIMIT (R44, R52). -/
def State.itemRefusal (s : State) (c : Code) (index : Nat) : State × Answer :=
  let t := if c = .itemCap then s.setLimit else s
  (t, .result c (beBytes 1 index ++ beBytes 3 0 ++ beBytes 4 0 ++ [0, flagByte t.acct.limit]))

/-- The refusal for want of credit: batch total, CREDIT and standing (R53). -/
def State.creditRefusal (s : State) (total : Nat) : State × Answer :=
  (s, .result .insufficientCredit
    ([0xFF] ++ beBytes 3 total ++ beBytes 4 s.acct.credit ++ [s.standing.code, flagByte s.acct.limit]))

/-- The batch total (R52). -/
def batchTotal (items : List (Fin 8 × Nat)) : Nat := (items.map (·.2)).sum

/-- The id after n, 255 followed by 1 (R55). -/
def idAfter (n : Nat) : Nat := if n < 255 then n + 1 else 1

/-- The first id from n upward that no open reservation holds, within the given number of tries (R55). -/
def freeId (used : List Nat) : Nat → Nat → Nat
  | 0, n => n
  | tries + 1, n => if used.contains n then freeId used tries (idAfter n) else n

/-- The id the next grant chooses (R55). -/
def State.chosenId (s : State) : Nat := freeId (s.resv.table.map (·.id)) 5 s.resv.nextId

/-- The WINDOW interval in milliseconds. -/
def State.windowMs (s : State) : Nat := 1000 * s.ctl.config.window.value

/-- The reservation a granted batch opens (R48, R55). -/
def State.newReservation (s : State) (items : List (Fin 8 × Nat)) : Reservation :=
  { id := s.chosenId, generation := s.activeGeneration, grantTime := s.resv.elapsedMs,
    deadline := s.resv.elapsedMs + s.windowMs,
    hardLimit := if s.ctl.config.confirmMode = .extended then some (s.resv.elapsedMs + 4 * s.windowMs) else none,
    phase := .running, items := items.map fun v => { cls := v.1, value := v.2, state := .granted } }

/-- A grant in IMMEDIATE mode: the value is charged at once and each item joins its class totals (R7, R54, R66). -/
def State.grantImmediate (items : List (Fin 8 × Nat)) (s : State) : State :=
  items.foldl (fun t v => t.addPrinted v.1 v.2)
    ((s.onAcct fun a => { a with used := a.used + batchTotal items }).setCredit (s.acct.credit - batchTotal items))

/-- A grant in WINDOW or EXTENDED mode: the value is held and a reservation opens (R7, R55). -/
def State.grantReserved (items : List (Fin 8 × Nat)) (s : State) : State :=
  ((s.onAcct fun a => { a with held := a.held + batchTotal items }).setCredit (s.acct.credit - batchTotal items)).onResv
    fun u => { u with table := u.table ++ [s.newReservation items], nextId := idAfter s.chosenId }

/-- The response of a grant (R56, R190). -/
def State.grantData (s : State) (id generation window : Nat) (items : List (Fin 8 × Nat)) : List Byte :=
  beBytes 1 id ++ beBytes 1 items.length ++ (items.flatMap fun v => beBytes 3 v.2) ++ beBytes 3 (batchTotal items) ++
    beBytes 1 generation ++ beBytes 4 s.acct.credit ++ [s.standing.code, flagByte s.acct.limit] ++ beBytes 1 window

/-- Test 7 and the grant in the committed mode (R53 to R56). -/
def State.grant (items : List (Fin 8 × Nat)) (s : State) : State × Answer :=
  if s.acct.credit < batchTotal items then s.creditRefusal (batchTotal items)
  else if s.ctl.config.confirmMode = .immediate then
    let t := s.grantImmediate items
    (t, .result .ok (t.grantData 0 s.activeGeneration 0 items))
  else
    let t := s.grantReserved items
    (t, .result .ok (t.grantData s.chosenId s.activeGeneration s.ctl.config.window.value items))

/-- IMPRINT after the frame checks: admission (R50) and the tests of R51 in order. -/
def imprintRequest (items : List Item) (s : State) : State × Answer :=
  if ¬(1 ≤ items.length ∧ items.length ≤ 8) then refuse .badParameter s
  else if s.ctl.state ≠ .active then s.imprintRefusal .wrongState
  else if s.time.timeLost then s.imprintRefusal .timeLost
  else if s.inspection = .lapsed then s.imprintRefusal .inspectionLapsed
  else match s.tariff.active with
    | none => s.imprintRefusal .noTariff
    | some bank =>
      if 4 ≤ s.resv.table.length then s.imprintRefusal .reservationFull
      else match rateBatch bank.content 0 items with
        | .error (c, n) => s.itemRefusal c n
        | .ok rated => s.grant rated

/-! ### CONFIRM -/

/-- A CONFIRM outcome: 1 PRINTED, 2 FAILED (R190). -/
def outcomeOf (code : Byte) : Option ItemState :=
  if code = 1 then some .printed else if code = 2 then some .failed else none

/-- A reservation with the state of one item changed. -/
def Reservation.withItem (r : Reservation) (index : Nat) (st : ItemState) : Reservation :=
  { r with items := r.items.modify index fun i => { i with state := st } }

/-- A reservation takes its new form in the table, or leaves it when it has no GRANTED item left (R49, R58). -/
def State.storeReservation (r : Reservation) (s : State) : State :=
  s.onResv fun u =>
    { u with table :=
        if r.grantedItems.isEmpty then u.table.eraseP (·.id == r.id)
        else u.table.map fun q => if q.id = r.id then r else q }

/-- The move of a confirmed item's value: PRINTED charges it, FAILED returns it to CREDIT (R8, R58). -/
def State.moveItem (i : ResItem) (st : ItemState) (s : State) : State :=
  if st = .failed then
    (s.onAcct fun a => { a with held := a.held - i.value }).setCredit (s.acct.credit + i.value)
  else s.chargeItem i

/-- A CONFIRM that passed every test closes the item (R58). -/
def State.confirmItem (r : Reservation) (index : Nat) (i : ResItem) (st : ItemState) (s : State) : State :=
  ((s.moveItem i st).storeReservation (r.withItem index st)).notice

/-- The response of an accepted CONFIRM (R58, R190). -/
def State.confirmData (s : State) (r : Reservation) (index : Nat) (st : ItemState) : List Byte :=
  beBytes 1 r.id ++ beBytes 1 index ++ [st.code] ++ beBytes 1 (r.withItem index st).grantedItems.length ++
    beBytes 4 s.acct.credit ++ beBytes 4 s.acct.held ++ [s.standing.code]

/-- CONFIRM after the frame checks: the tests of R57 in order. -/
def confirmRequest (id index outcome : Byte) (s : State) : State × Answer :=
  match outcomeOf outcome with
  | none => refuse .badParameter s
  | some st =>
    if s.ctl.state = .unconfigured then refuse .wrongState s
    else match s.reservation id.toNat with
      | none => refuse .tooLate s
      | some r =>
        match r.items[index.toNat]? with
        | none => refuse .badParameter s
        | some i =>
          if i.state ≠ .granted then (s, .result .itemClosed [i.state.code])
          else
            let t := s.confirmItem r index.toNat i st
            (t, .result .ok (t.confirmData r index.toNat st))

/-! ### Deadlines and PBUSY -/

/-- A reservation enters phase WAITING (R61). -/
def State.startWaiting (r : Reservation) (s : State) : State :=
  s.onResv fun u => { u with table := u.table.map fun q => if q.id = r.id then { q with phase := .waiting } else q }

/-- The deadline of a RUNNING reservation: in EXTENDED mode with PBUSY asserted it waits, otherwise it expires
(R60, R61). -/
def State.deadlineOf (id : Nat) (s : State) : State :=
  match s.reservation id with
  | some r =>
    if r.phase = .running then
      if s.ctl.config.confirmMode = .extended ∧ s.pbusy = true then s.startWaiting r else s.expire r
    else s
  | none => s

/-- The hard limit of a WAITING reservation expires it, whatever PBUSY is (R61). -/
def State.hardLimitOf (id : Nat) (s : State) : State :=
  match s.reservation id with
  | some r => if r.phase = .waiting then s.expire r else s
  | none => s

/-- A release of PBUSY expires every WAITING reservation, each as its own value event (R62). -/
def State.releaseWaiting (s : State) : State :=
  (s.resv.table.filter (·.phase == .waiting)).foldl (fun t r => t.expire r) s

/-! ### Meanings -/

/-- IMPRINT (R51). -/
def execImprint (items : List Item) (s : State) : Host.Outcome State Fault Refusal :=
  .next (s.hostRequest (.imprint items) none (imprintRequest items))

/-- CONFIRM (R57). -/
def execConfirm (id index outcome : Byte) (s : State) : Host.Outcome State Fault Refusal :=
  .next (s.hostRequest (.confirm id index outcome) none (confirmRequest id index outcome))

/-- DEADLINE (R60, R61). -/
def execDeadline (id : Byte) (s : State) : Host.Outcome State Fault Refusal :=
  .next (if s.active then s.deadlineOf id.toNat else s)

/-- HARD_LIMIT (R61). -/
def execHardLimit (id : Byte) (s : State) : Host.Outcome State Fault Refusal :=
  .next (if s.active then s.hardLimitOf id.toNat else s)

/-- PBUSY_ASSERTED: the input is asserted and no reservation changes (R62). -/
def execPbusyAsserted (s : State) : Host.Outcome State Fault Refusal := .next { s with pbusy := true }

/-- PBUSY_RELEASED: the input is released; in EXTENDED mode every WAITING reservation expires (R62), in one step (DESIGN CHOICE, log
entry 47). -/
def execPbusyReleased (s : State) : Host.Outcome State Fault Refusal :=
  let t := { s with pbusy := false }
  .next (if s.active && s.ctl.config.confirmMode == .extended then t.releaseWaiting else t)

end Sys2Proof.Machine
end

