-- ==== Sys2Proof/Machine/RequestFrame.lean ====
section
/-! DEFINITION. Requests that arrive as bytes: the host port's frame checks, and the handing of a request that passes
them to its owning block (R179, R181, R182). -/

namespace Sys2Proof.Machine

/-- A TARIFF_CLASS whose section code is none of 0, 1 and 2: after SUPV, the station state and the staged state it is
refused BAD_PARAMETER (R28, R181). -/
def tariffOtherRequest (s : State) : State × Answer := refuse .badParameter s

/-- The owning block of a request takes it (R182, R190). -/
def runRequest (supv : Bool) : Request → State → State × Answer
  | .status => statusRequest
  | .readAt region index => readAtRequest region index
  | .readNext => readNextRequest
  | .imprint items => imprintRequest items
  | .confirm id index outcome => confirmRequest id index outcome
  | .sell d c => whenActive (sellRequest d c)
  | .stockIn d c => supervised supv (whenActive (stockInRequest d c))
  | .count d p => supervised supv (whenActive (countRequest d p))
  | .consign k d c => supervised supv (whenActive (consignRequest k d c))
  | .voucher b k n a c => supervised supv (voucherRequest b k n a c)
  | .tariffOpen => supervised supv (whenActive tariffOpenRequest)
  | .tariffSurcharge t vs => supervised supv (whenActive (whenOpened (tariffSurchargeRequest t vs)))
  | .tariffHead t r sv bc fs => supervised supv (whenActive (whenOpened (tariffHeadRequest t r sv bc fs)))
  | .tariffBands t f bs => supervised supv (whenActive (whenOpened (tariffBandsRequest t f bs)))
  | .tariffOther _ _ _ => supervised supv (whenActive (whenOpened tariffOtherRequest))
  | .tariffClose g d => supervised supv (whenActive (tariffCloseRequest g d))
  | .auditClose q => supervised supv (whenCommitted (auditCloseRequest q))
  | .setDay d sec => supervised supv (setDayRequest d sec)
  | .park => supervised supv (whenCommitted parkRequest)
  | .resume => supervised supv (whenCommitted resumeRequest)
  | .configSet i n v => supervised supv (configSetRequest i n v)
  | .configCommit => supervised supv configCommitRequest

/-- The frame checks, then the owning block (R181). -/
def frameRequest (frame : List Byte) (supv : Bool) (s : State) : State × Answer :=
  match checkFrame frame with
  | .error c => refuse c s
  | .ok r => runRequest supv r s

/-- A clerk command: SUPV is not looked at for it (R182). -/
def isClerk : Request → Bool
  | .status | .readAt _ _ | .readNext | .imprint _ | .confirm _ _ _ | .sell _ _ => true
  | .stockIn _ _ | .count _ _ | .consign _ _ _ | .voucher _ _ _ _ _ | .tariffOpen | .tariffSurcharge _ _
  | .tariffHead _ _ _ _ _ | .tariffBands _ _ _ | .tariffOther _ _ _ | .tariffClose _ _ | .auditClose _ | .setDay _ _
  | .park | .resume | .configSet _ _ _ | .configCommit => false

/-- The SUPV sample that bytes leave. DESIGN CHOICE: bytes that spell a clerk command leave the sample as it was, as R50
says of IMPRINT, and all others are sampled, as R179 says; nothing reads the sample (log entry 33). -/
def frameSample (frame : List Byte) (supv : Bool) : Option Bool :=
  match checkFrame frame with
  | .ok r => if isClerk r then none else some supv
  | .error _ => some supv

/-- A transaction by its bytes: with no byte, or with 0x00 first, it is no request (R179). -/
def State.transaction (frame : List Byte) (supv : Bool) (s : State) : State :=
  if frame.headD 0 = 0 then s else s.takeRequest frame (frameSample frame supv) (frameRequest frame supv)

/-- BAD_FRAME: a request taken as its bytes. One that fails the checks is answered BAD_FRAME, UNKNOWN_COMMAND or
BAD_LENGTH and reaches no block (R181); one that passes them goes to its owning block. -/
def execBadFrame (frame : List Byte) (supv : Bool) (s : State) : Host.Outcome State Fault Refusal :=
  .next (s.transaction frame supv)

end Sys2Proof.Machine
end

