-- ==== Sys2Proof/Machine/Dispatch.lean ====
section
/-! DEFINITION. exec: one arm per row of spec/opcode_table.json, each one call of that row's meaning. -/

namespace Sys2Proof.Machine

def exec (i : Instr) (s : State) : Host.Outcome State Fault Refusal :=
  match i with
  | .requestOverrun => Sys2Proof.Machine.execRequestOverrun s
  | .badFrame frame supv => Sys2Proof.Machine.execBadFrame frame supv s
  | .fetch => Sys2Proof.Machine.execFetch s
  | .status => Sys2Proof.Machine.execStatus s
  | .readAt region index => Sys2Proof.Machine.execReadAt region index s
  | .readNext => Sys2Proof.Machine.execReadNext s
  | .imprint items => Sys2Proof.Machine.execImprint items s
  | .confirm id index outcome => Sys2Proof.Machine.execConfirm id index outcome s
  | .sell denom count => Sys2Proof.Machine.execSell denom count s
  | .stockIn supv denom count => Sys2Proof.Machine.execStockIn supv denom count s
  | .count supv denom physical => Sys2Proof.Machine.execCount supv denom physical s
  | .consign supv station denom count => Sys2Proof.Machine.execConsign supv station denom count s
  | .voucher supv branch station serial amount check => Sys2Proof.Machine.execVoucher supv branch station serial amount check s
  | .tariffOpen supv => Sys2Proof.Machine.execTariffOpen supv s
  | .tariffClassSurcharge supv target values => Sys2Proof.Machine.execTariffClassSurcharge supv target values s
  | .tariffClassHead supv target rounding services bandCount factors => Sys2Proof.Machine.execTariffClassHead supv target rounding services bandCount factors s
  | .tariffClassBands supv target first bands => Sys2Proof.Machine.execTariffClassBands supv target first bands s
  | .tariffClose supv generation day => Sys2Proof.Machine.execTariffClose supv generation day s
  | .auditClose supv q => Sys2Proof.Machine.execAuditClose supv q s
  | .setDay supv day seconds => Sys2Proof.Machine.execSetDay supv day seconds s
  | .park supv => Sys2Proof.Machine.execPark supv s
  | .resume supv => Sys2Proof.Machine.execResume supv s
  | .configSet supv item index value => Sys2Proof.Machine.execConfigSet supv item index value s
  | .configCommit supv => Sys2Proof.Machine.execConfigCommit supv s
  | .deadline id => Sys2Proof.Machine.execDeadline id s
  | .hardLimit id => Sys2Proof.Machine.execHardLimit id s
  | .pbusyAsserted => Sys2Proof.Machine.execPbusyAsserted s
  | .pbusyReleased => Sys2Proof.Machine.execPbusyReleased s
  | .dayAdvance => Sys2Proof.Machine.execDayAdvance s
  | .rollTick order => Sys2Proof.Machine.execRollTick order s
  | .backoffWaitEnd => Sys2Proof.Machine.execBackoffWaitEnd s
  | .balancerWake => Sys2Proof.Machine.execBalancerWake s
  | .offerWindow => Sys2Proof.Machine.execOfferWindow s
  | .takeWait => Sys2Proof.Machine.execTakeWait s
  | .answerWait receiver => Sys2Proof.Machine.execAnswerWait receiver s
  | .attempt => Sys2Proof.Machine.execAttempt s
  | .arbitrationLost => Sys2Proof.Machine.execArbitrationLost s
  | .attemptAcknowledged => Sys2Proof.Machine.execAttemptAcknowledged s
  | .attemptFailed => Sys2Proof.Machine.execAttemptFailed s
  | .frameArrival identifier data => Sys2Proof.Machine.execFrameArrival identifier data s
  | .frameTaken => Sys2Proof.Machine.execFrameTaken s
  | .peerAbsence station => Sys2Proof.Machine.execPeerAbsence station s
  | .callFrame => Sys2Proof.Machine.execCallFrame s
  | .takeFrame => Sys2Proof.Machine.execTakeFrame s
  | .offerFrame => Sys2Proof.Machine.execOfferFrame s
  | .noneFrame => Sys2Proof.Machine.execNoneFrame s
  | .giveFrame => Sys2Proof.Machine.execGiveFrame s
  | .gotFrame => Sys2Proof.Machine.execGotFrame s
  | .haveFrame => Sys2Proof.Machine.execHaveFrame s
  | .voidFrame => Sys2Proof.Machine.execVoidFrame s
  | .nohaveFrame => Sys2Proof.Machine.execNohaveFrame s
  | .deferFrame => Sys2Proof.Machine.execDeferFrame s
  | .queryFrame => Sys2Proof.Machine.execQueryFrame s
  | .resetn => Sys2Proof.Machine.execResetn s
  | .powerOnReset => Sys2Proof.Machine.execPowerOnReset s
  | .powerLoss midRecord => Sys2Proof.Machine.execPowerLoss midRecord s
  | .backupLoss => Sys2Proof.Machine.execBackupLoss s
  | .responseFormed => Sys2Proof.Machine.execResponseFormed s
  | .silenceSecond => Sys2Proof.Machine.execSilenceSecond s

end Sys2Proof.Machine
end

