-- ==== Sys2Proof/Machine/Clock.lean ====
section
/-! DEFINITION. The part's own clock, taken on an empty queue (log entry 1): the events that are due are put on the
queue, and when none is due one millisecond passes. Attempts on the line and their ends, arrivals, pins, supplies
and the host come from outside. -/

namespace Sys2Proof.Machine

/-! ### A millisecond -/

/-- A running timer has one millisecond less to run. -/
def Timer.tick : Timer → Timer
  | .stopped => .stopped
  | .running n => .running (n - 1)

/-- A timer has run out. -/
def Timer.due : Timer → Bool
  | .running 0 => true
  | .running _ | .stopped => false

/-- A millisecond of the day: a whole second raises seconds-of-day, and the last second of the day ends in a day
advance instead (R172). -/
def Timebase.passMs (t : Timebase) : Timebase :=
  if t.subMs < 999 then { t with subMs := t.subMs + 1 }
  else if t.seconds < 86399 then { t with seconds := t.seconds + 1, subMs := 0 }
  else { t with subMs := 1000 }

/-- The last second of the day is over (R172). -/
def Timebase.dayDue (t : Timebase) : Bool := t.seconds == 86399 && t.subMs == 1000

/-- A millisecond for the line controller: the roll timer and the second of silence (R112, R117). -/
def LineController.passMs (l : LineController) : LineController :=
  { l with rollTimer := l.rollTimer.tick, secondMs := l.secondMs + 1 }

/-- A millisecond for the balancer: the offer window and the take wait (R122). -/
def Balancer.passMs (b : Balancer) : Balancer :=
  { b with offerWindow := b.offerWindow.tick, takeWait := b.takeWait.tick }

/-- A millisecond for the settlement unit: every answer wait (R139). -/
def SettlementUnit.passMs (u : SettlementUnit) : SettlementUnit :=
  { u with records := u.records.map fun r => { r with wait := r.wait.tick } }

/-- One millisecond passes. The day runs on either supply (R171); the other counts run on main power, those of the
line, the balancer and the settlement unit once the station is committed (R48, R100, R122, R139). -/
def State.passMs (s : State) : State :=
  let day := if s.dayRuns then s.onTime Timebase.passMs else s
  let counted := if s.powered then day.onResv (fun u => { u with elapsedMs := u.elapsedMs + 1 }) else day
  if s.active then
    ((counted.onLine LineController.passMs).onBal Balancer.passMs).onSettle SettlementUnit.passMs
  else counted

/-! ### Events that are due -/

/-- An event when a condition holds. -/
def dueIf (b : Bool) (i : Instr) : List Instr := if b then [i] else []

/-- The row by which a block takes the frame handed to it (R111). -/
def Payload.row : Payload → Option Instr
  | .call _ => some .callFrame
  | .take _ _ => some .takeFrame
  | .offer _ _ => some .offerFrame
  | .noneLeft _ => some .noneFrame
  | .give _ _ _ => some .giveFrame
  | .reply .got _ _ => some .gotFrame
  | .reply .haveIt _ _ => some .haveFrame
  | .reply .void _ _ => some .voidFrame
  | .reply .nohave _ _ => some .nohaveFrame
  | .reply .defer _ _ => some .deferFrame
  | .query _ _ => some .queryFrame
  | .roll _ => none

/-- The row of the frame handed to a block, when there is one (R111). -/
def LineController.handedRow (l : LineController) (h : Handler) : List Instr :=
  match l.handed h with
  | some f => if f.payload.handler = some h then f.payload.row.toList else []
  | none => []

/-- A reservation's deadline or hard limit, when its time has come in its phase (R60, R61). -/
def Reservation.dueEvent (now : Nat) (r : Reservation) : List Instr :=
  match r.phase, r.hardLimit with
  | .running, _ => dueIf (r.deadline ≤ now) (.deadline (.ofNat 8 r.id))
  | .waiting, some limit => dueIf (limit ≤ now) (.hardLimit (.ofNat 8 r.id))
  | .waiting, none => []

/-- The caller is in the state that its running timer paces (R122). -/
def Balancer.dueEvent (b : Balancer) : List Instr :=
  match b.caller with
  | .idle => []
  | .calling => dueIf b.offerWindow.due .offerWindow
  | .taking _ _ => dueIf b.takeWait.due .takeWait

/-- The events due at the line controller (R111, R112, R117). -/
def State.lineEvents (s : State) : List Instr :=
  dueIf s.line.rollTimer.due (.rollTick (Config.tickOrder s.freeDraws)) ++
    dueIf (1000 ≤ s.line.secondMs) .silenceSecond ++
    (List.finRange 15).flatMap (fun i => dueIf s.line.peers[i].absenceDue (.peerAbsence (stationAt i))) ++
    dueIf (!s.line.rx.isEmpty && s.line.holding.isNone) .frameTaken ++
    s.line.handedRow .offerer ++ s.line.handedRow .balancer ++ s.line.handedRow .settlement

/-- The events due at the settlement unit: the answer waits of UNSETTLED records (R143). -/
def State.settlementEvents (s : State) : List Instr :=
  s.settle.records.flatMap fun r => dueIf (r.state == .unsettled && r.wait.due) (.answerWait r.receiver)

/-- The events that are due now, in the order the model takes them (log entry 2). -/
def State.dueEvents (s : State) : List Instr :=
  dueIf (s.powered && s.host.answer.isSome) .responseFormed ++
    dueIf (s.dayRuns && s.time.dayDue) .dayAdvance ++
    (if s.active then
      dueIf (0 < s.bal.wakes) .balancerWake ++ s.resv.table.flatMap (Reservation.dueEvent s.resv.elapsedMs) ++
        s.bal.dueEvent ++ s.settlementEvents ++ s.lineEvents
    else [])

/-- What the part does with an empty queue: it puts the events that are due on the queue, and lets a millisecond pass
when none is due. Each time it does the first, it counts a free draw for the order of a roll tick. -/
def State.idle (s : State) : State :=
  match s.dueEvents with
  | [] => s.passMs
  | i :: is => { s.drawn with pending := i :: is }

end Sys2Proof.Machine
end

