-- ==== Sys2Proof/Safety.lean ====
section
/-! DEFINITION. What a safe run is, in the terms the statements use: the invariants of the account, the drawer, the
journal, the line and the park, and the vocabulary of taken requests. -/

namespace Sys2Proof.Machine

/-! ### Invariants -/

/-- The account balances: the identity of R4, the equality of R5, HELD as the value of the GRANTED items (R49), USED as
the value of the class totals (R66), the two caps (R2, R3), and a reservation table of at most four different ids
(R48). -/
abbrev State.CreditBalances (s : State) : Prop :=
  s.acct.loaded + s.acct.taken + s.acct.reclaimed = s.acct.credit + s.acct.held + s.acct.used + s.acct.given ∧
  s.acct.given = s.acct.settledOut + s.acct.reclaimed + s.openOut ∧
  s.acct.held = (s.resv.table.map Reservation.grantedValue).sum ∧
  s.acct.used = (s.resv.totals.toList.map (·.value)).sum ∧
  s.committedCredit ≤ creditCap ∧ s.ascendingTotal ≤ ascendingCap ∧
  s.resv.table.length ≤ 4 ∧ (s.resv.table.map (·.id)).Nodup

/-- The drawer balances: for each denomination the identity of R69 and the two bounds of R70. -/
abbrev State.StockBalances (s : State) : Prop :=
  ∀ d : Fin 16,
    s.stock[d].received + s.stock[d].inward + s.stock[d].overFound + s.stock[d].returned =
      s.stock[d].onHand + s.stock[d].sold + s.stock[d].outward + s.stock[d].shortFound ∧
    s.committedStock d ≤ stockCap ∧ s.stockTotal d ≤ counterCap

/-- The journal is in order: sequence numbers rise and stay below the next one (R84), entries and open records stay
within 240 and the sequence numbers suffice for every closing entry (R89), at most four records are open, to different
receivers (R141). -/
abbrev State.JournalSound (s : State) : Prop :=
  s.journal.entries.Pairwise (fun a b => a.seq < b.seq) ∧
  (∀ e ∈ s.journal.entries, e.seq < s.journal.nextSeq) ∧
  1 ≤ s.journal.nextSeq ∧ s.journal.nextSeq + s.settle.records.length ≤ 4294967295 ∧
  s.occupancy ≤ 240 ∧ s.settle.records.length ≤ 4 ∧ (s.settle.records.map (·.receiver)).Nodup

/-- The transmit queue in order (R100, R103, R106): at most eight frames by identifier, at most one in progress, none
with more than fifteen failed attempts. -/
abbrev LineController.QueueSound (l : LineController) : Prop :=
  l.tx.length ≤ 8 ∧ (l.tx.map (·.payload.kind)).Pairwise (· ≤ ·) ∧ l.tx.countP (·.inProgress) ≤ 1 ∧
  ∀ e ∈ l.tx, e.attempts ≤ 15

/-- The line is sound: its queue is, the receive queue holds at most sixteen frames (R100), the run count is below 8
while UP and 8 while ALONE (R103, R104), and while ALONE only ROLL frames are queued (R105). -/
abbrev State.LineSound (s : State) : Prop :=
  s.line.QueueSound ∧ s.line.rx.length ≤ 16 ∧
  (s.line.state = .up → s.line.runCount ≤ 7) ∧
  (s.line.state = .alone → s.line.runCount = 8 ∧ ∀ e ∈ s.line.tx, e.payload.isRoll = true)

/-- What a park image holds after its header, as the table of R167 lists it: the eight registers, the denominations below
DENOM_COUNT in index order, the outbound records in list order. -/
def State.frozenRecords (s : State) : List ImageRecord :=
  [.registers s.acct.credit s.acct.held s.acct.used s.acct.loaded s.acct.given s.acct.taken s.acct.settledOut
    s.acct.reclaimed] ++
  (((List.finRange 16).filter fun d => decide (d.val < s.ctl.config.denomCount.value)).map fun d =>
    .denomination d.val (s.face d) s.stock[d] (s.openStock d)) ++
  s.settle.records.map .outbound

/-- The image formed at an entry to PARKED: its header gives the station number, the day of entry, the last accepted
serial, the active generation of that moment and the record count, and its check is over all of it (R167, R168). -/
def State.entryImage (s : State) (generation : Nat) (image : List ImageRecord) : Prop :=
  let header (check : BitVec 32) : ImageRecord :=
    .header ((s.ctl.config.station.map (·.val)).getD 0) s.time.day s.acct.lastSerial generation
      (s.frozenRecords.length + 1) check
  image = header (imageCheck (header 0) s.frozenRecords) :: s.frozenRecords

/-- A park image agrees with the station number, the last accepted serial, the live account, drawer and outbound list, and
with its own record count and check; the day of entry and the generation of that moment may since have moved (R167,
R168). -/
def State.imageAgrees (s : State) : Prop :=
  ∃ day generation : Nat, State.entryImage { s with time := { s.time with day := day } } generation s.ctl.image

/-- The park is sound: an image exists only while PARKED and agrees with what it froze; a PARKED station has no open
work and a PARKING station has some (R164, R167); a STRANDED record has no answer wait (R143). -/
def State.ParkSound (s : State) : Prop :=
  (∀ r ∈ s.settle.records, r.state = .stranded → r.wait = .stopped) ∧
  (s.ctl.state = .parked → s.workClosed = true ∧ s.imageAgrees) ∧
  (s.ctl.state = .parking → s.workClosed = false) ∧
  (s.ctl.state ≠ .parked → s.ctl.image = [])

/-! ### Taken requests -/

/-- A request can be taken: main power is on and RDY is high (R179). -/
abbrev State.ready (s : State) : Prop := s.power = .on ∧ s.host.rdy = true

/-- The host port after it took a request that its owning block has answered (R179). -/
def HostPort.took (h : HostPort) (r : Request) (supv : Option Bool) (a : Answer) : HostPort :=
  { h with request := requestFrame r, response := none, overrun := false, rdy := false, supv := supv.getD h.supv,
           answer := some a }

/-- The row of a supervisor command with the SUPV level it carries (R182). -/
def supervisorRow (supv : Bool) : Request → Option Instr
  | .stockIn d c => some (.stockIn supv d c)
  | .count d p => some (.count supv d p)
  | .consign k d c => some (.consign supv k d c)
  | .voucher b k n a c => some (.voucher supv b k n a c)
  | .tariffOpen => some (.tariffOpen supv)
  | .tariffSurcharge t vs => some (.tariffClassSurcharge supv t vs)
  | .tariffHead t r sv bc fs => some (.tariffClassHead supv t r sv bc fs)
  | .tariffBands t f bs => some (.tariffClassBands supv t f bs)
  | .tariffClose g d => some (.tariffClose supv g d)
  | .auditClose q => some (.auditClose supv q)
  | .setDay d sec => some (.setDay supv d sec)
  | .park => some (.park supv)
  | .resume => some (.resume supv)
  | .configSet i n v => some (.configSet supv i n v)
  | .configCommit => some (.configCommit supv)
  | .status | .readAt _ _ | .readNext | .imprint _ | .confirm _ _ _ | .sell _ _ | .tariffOther _ _ _ => none

/-- The row of a clerk command, for which SUPV is not looked at (R182). -/
def clerkRow : Request → Option Instr
  | .status => some .status
  | .readAt r i => some (.readAt r i)
  | .readNext => some .readNext
  | .imprint items => some (.imprint items)
  | .confirm id i o => some (.confirm id i o)
  | .sell d c => some (.sell d c)
  | _ => none

/-- Why a request that passed the frame checks and SUPV is refused with its status alone, by the rules of its command in
their order: the station state, the staged state, the ranges of its fields, the reservation it names (R17, R26, R28, R31,
R33, R50, R57, R72, R94, R163, R165, R175, R185, R187, R188). -/
def State.admissionFault (s : State) : Request → Option Code
  | .status => none
  | .readAt region _ =>
    if 6 < region.toNat then some .badParameter
    else if s.ctl.state = .unconfigured ∧ region.toNat ≠ 6 then some .wrongState
    else if region.toNat = 5 ∧ s.ctl.state ≠ .parked then some .notParked
    else none
  | .readNext =>
    if s.ctl.state = .unconfigured ∧ s.host.cursorRegion ≠ .config then some .wrongState
    else if s.host.cursorRegion = .image ∧ s.ctl.state ≠ .parked then some .notParked
    else none
  | .imprint items => if items.length = 0 ∨ 8 < items.length then some .badParameter else none
  | .confirm id index outcome =>
    if outcome ≠ 1 ∧ outcome ≠ 2 then some .badParameter
    else if s.ctl.state = .unconfigured then some .wrongState
    else match s.reservation id.toNat with
      | none => some .tooLate
      | some r => if r.items.length ≤ index.toNat then some .badParameter else none
  | .sell _ count =>
    if s.ctl.state ≠ .active then some .wrongState
    else if count.toNat = 0 ∨ 999 < count.toNat then some .badParameter else none
  | .stockIn _ count =>
    if s.ctl.state ≠ .active then some .wrongState else if count.toNat = 0 then some .badParameter else none
  | .count _ _ | .tariffOpen => if s.ctl.state ≠ .active then some .wrongState else none
  | .consign station _ count =>
    if s.ctl.state ≠ .active then some .wrongState
    else if station.toNat = 0 ∨ 15 < station.toNat ∨ s.ctl.config.station.map (·.val) = some station.toNat ∨
        count.toNat = 0 then some .badParameter
    else none
  | .voucher _ _ _ amount _ =>
    if s.ctl.state ≠ .active then some .wrongState else if 9999999 < amount.toNat then some .badParameter else none
  | .tariffSurcharge target _ =>
    if s.ctl.state ≠ .active ∨ s.tariff.stagedState ≠ .opened then some .wrongState
    else if target.toNat ≠ 8 then some .badParameter else none
  | .tariffHead target _ _ _ _ =>
    if s.ctl.state ≠ .active ∨ s.tariff.stagedState ≠ .opened then some .wrongState
    else if 7 < target.toNat then some .badParameter else none
  | .tariffBands target first bands =>
    if s.ctl.state ≠ .active ∨ s.tariff.stagedState ≠ .opened then some .wrongState
    else match s.tariff.assembly with
      | none => some .badParameter
      | some a =>
        if a.cls.val ≠ target.toNat ∨ first.toNat ≠ a.bands.length ∨ bands.length = 0 ∨ 4 < bands.length ∨
          a.bandCount < first.toNat + bands.length then some .badParameter else none
  | .tariffOther _ _ _ =>
    if s.ctl.state ≠ .active ∨ s.tariff.stagedState ≠ .opened then some .wrongState else some .badParameter
  | .tariffClose _ _ =>
    if s.ctl.state ≠ .active ∨ s.tariff.stagedState ≠ .opened then some .wrongState else none
  | .auditClose _ | .park | .resume => if s.ctl.state = .unconfigured then some .wrongState else none
  | .setDay day seconds =>
    if s.ctl.state = .unconfigured then some .wrongState
    else if 86399 < seconds.toNat then some .badParameter
    else if s.time.timeLost = false then some .wrongState
    else if day.toNat < s.time.lastRecorded then some .dayBackward
    else none
  | .configSet item index _ =>
    if s.ctl.state ≠ .unconfigured then some .wrongState
    else if 14 < item.toNat ∨ (if item.toNat = 14 then 15 else 0) < index.toNat then some .badParameter else none
  | .configCommit => if s.ctl.state ≠ .unconfigured then some .wrongState else none

/-! ### What a value event does besides its registers -/

/-- The standing of a value of CREDIT (R12). -/
def State.standingAt (s : State) (credit : Nat) : Standing :=
  standingOf s.ctl.config.low.value s.ctl.config.high.value credit

/-- CREDIT, brought to this value, moves the standing into LOW or EMPTY from another (R13). -/
def State.entersShort (s : State) (credit : Nat) : Bool :=
  (s.standingAt credit == .low || s.standingAt credit == .empty) && s.standingAt credit != s.standing

/-- The stored alerts when CREDIT takes this value: LOW_CREDIT latches on a move into LOW or EMPTY (R13). -/
def State.alertsAt (s : State) (credit : Nat) : AlertStore :=
  { s.host.alerts with lowCredit := s.host.alerts.lowCredit || s.entersShort credit }

/-- The balancer when CREDIT takes this value: a move into LOW or EMPTY wakes it (R13). -/
def State.balAt (s : State) (credit : Nat) : Balancer :=
  { s.bal with wakes := s.bal.wakes + if s.entersShort credit then 1 else 0 }

/-- Stored alerts after one more journal entry: JOURNAL_NEAR_FULL latches with the 200th (R92). -/
def State.nearFull (s : State) (a : AlertStore) : AlertStore :=
  { a with journalNearFull := a.journalNearFull || s.journal.entries.length == 199 }

/-- The journal with one more entry: the next sequence number and the day of the moment (R87). -/
def State.journalWith (s : State) (kind : EntryKind) (peer : Option Station) (serial : Option Nat)
    (denom : Option (Fin 16)) (direction : Option Direction) (amount : Nat) (balance : Option Nat) : Journal :=
  { entries := s.journal.entries ++ [
      { seq := s.journal.nextSeq, day := s.time.day, kind := kind, peer := peer, serial := serial, denom := denom,
        direction := direction, amount := amount, balance := balance }],
    nextSeq := s.journal.nextSeq + 1 }

/-- What the closing of the GRANTED items of r as printed does to the class totals: each class gains its items and their
values, a count staying at 4,294,967,295 (R66). -/
abbrev ReservationUnit.chargedAs (u v : ReservationUnit) (granted : List ResItem) : Prop :=
  ∀ c : Fin 8, v.totals[c] =
    { count := min (u.totals[c].count + (granted.filter (·.cls == c)).length) 4294967295,
      value := u.totals[c].value + ((granted.filter (·.cls == c)).map (·.value)).sum }

/-- The expiry of r: the values of its GRANTED items move from HELD to USED and into their class totals, it leaves the
table, RESERVATION_EXPIRED latches when it had a GRANTED item, a PARKING station whose work is closed enters PARKED, and
nothing else changes (R59, R60, R65). -/
def State.expiredAs (s t : State) (r : Reservation) : Prop :=
  t.acct = { s.acct with held := s.acct.held - r.grantedValue, used := s.acct.used + r.grantedValue } ∧
  s.resv.chargedAs t.resv r.grantedItems ∧
  t.resv.table = s.resv.table.eraseP (·.id == r.id) ∧
  { t.resv with table := s.resv.table, totals := s.resv.totals } = s.resv ∧
  t.host.alerts.reservationExpired = (s.host.alerts.reservationExpired || !r.grantedItems.isEmpty) ∧
  t.ctl = { s with acct := t.acct, resv := t.resv }.notice.ctl ∧
  { t with
    acct := s.acct, resv := s.resv, ctl := s.ctl,
    host := { t.host with alerts := { t.host.alerts with reservationExpired := s.host.alerts.reservationExpired } } } = s

/-- The caller back to IDLE with its offers and timers cleared (R126, R134). -/
def Balancer.abandoned (b : Balancer) : Balancer :=
  { b with caller := .idle, offers := [], offerWindow := .stopped, takeWait := .stopped }

/-- The caller back to IDLE with backoff: the level rises, at most to 4, and the wait is 1, 2, 4 or 8 roll ticks (R128). -/
def Balancer.gaveUp (b : Balancer) : Balancer :=
  { b.abandoned with
    backoffLevel := min (b.backoffLevel + 1) 4, backoffWait := 2 ^ (min (b.backoffLevel + 1) 4 - 1) }

/-- The caller after the outcome of a credit GIVE from g: TAKING from g it ends, without backoff when the GIVE was credited
and with backoff when it was voided or deferred; otherwise nothing (R127, R128). -/
def Balancer.afterGive (b : Balancer) (g : Station) (credited : Bool) : Balancer :=
  match b.caller with
  | .taking k _ =>
    if k = g then (if credited then { b.abandoned with backoffLevel := 0, backoffWait := 0 } else b.gaveUp) else b
  | _ => b

/-- The tariff store after a switch (R34). -/
def TariffStore.switched (t : TariffStore) : TariffStore :=
  { t with
    active := some { generation := t.stagedGeneration, effectiveDay := t.effectiveDay, content := t.staged },
    stagedState := .empty, staged := { surcharges := Vector.replicate 8 0, classes := Vector.replicate 8 none }, stagedGeneration := 0,
    effectiveDay := 0 }

/-- A READY bank is due on a day (R35, R37). -/
def TariffStore.dueOn (t : TariffStore) (day : Nat) : Bool := t.stagedState == .ready && t.effectiveDay ≤ day

/-! ### Layouts as R189 and R192 list them -/

/-- Bytes lay out fields of a width in bytes and a value: every field in order and nothing more, most significant byte first
(chapter 10, FORMATS). -/
def laysOut (bytes : List Byte) (fields : List (Nat × Nat)) : Prop :=
  fieldsOf (fields.map (·.1)) bytes = some (fields.map fun f => f.2 % 256 ^ f.1)

/-- The code of a name in a list of names in code order, from 0. -/
def codeIn {α : Type} [BEq α] (names : List α) (a : α) : Nat := names.idxOf a

/-- The fields of the STATUS data (R189). -/
def State.statusFields (s : State) : List (Nat × Nat) :=
  [(1, (s.ctl.config.station.map (·.val)).getD 0),
   (1, codeIn [StationState.unconfigured, .active, .parking, .parked] s.ctl.state),
   (1, codeIn [Standing.empty, .low, .normal, .surplus] s.standing),
   (1, s.acct.limit.toNat + 2 * (s.line.state == .alone).toNat + 4 * s.time.timeLost.toNat +
      8 * codeIn [Inspection.current, .due, .lapsed] s.inspection),
   (1, s.activeGeneration), (1, codeIn [StagedState.empty, .opened, .ready] s.tariff.stagedState),
   (1, if s.tariff.stagedState = .ready then s.tariff.stagedGeneration else 0), (2, s.time.day),
   (1, s.time.inspection), (1, s.journal.entries.length), (1, s.resv.table.length), (1, s.settle.records.length),
   (2, bitsNumber [s.host.alerts.lowCredit, s.host.alerts.stranded, s.host.alerts.reservationExpired,
      s.host.alerts.journalNearFull, s.host.alerts.inspectionDue, s.inspection == .lapsed, s.time.timeLost,
      s.host.alerts.tariffSwitched, s.host.alerts.peerTariffNewer, s.host.alerts.lineAlone,
      s.host.alerts.stationClash]),
   (4, s.acct.lastSerial), (4, s.acct.credit), (4, s.acct.held), (6, s.acct.used), (6, s.acct.loaded),
   (6, s.acct.given), (6, s.acct.taken), (6, s.acct.settledOut), (6, s.acct.reclaimed), (1, s.line.runCount),
   (2, s.line.attemptDrops), (2, s.line.queueDrops), (2, s.line.receiveDrops)]

/-- The fields of a JOURNAL record (R192). -/
def entryFields (e : Entry) : List (Nat × Nat) :=
  [(4, e.seq), (2, e.day),
   (1, codeIn [EntryKind.voucher, .giveCredit, .receiveCredit, .giveStock, .receiveStock, .settle, .restore, .stockIn,
      .countAdjust] e.kind),
   (1, bitsNumber [e.peer.isSome, e.serial.isSome, e.denom.isSome, e.balance.isSome, e.direction == some .shortage]),
   (1, (e.peer.map (·.val)).getD 0), (4, e.serial.getD 0), (1, (e.denom.map (·.val)).getD 0), (4, e.amount),
   (4, e.balance.getD 0)]

/-- The fields of a PEERS record up to the flag that roll content is present (R192). -/
def peerFields (k : Station) (e : PeerEntry) : List (Nat × Nat) :=
  [(1, k.val), (1, codeIn [Presence.unheard, .present, .absent, .self] e.presence), (2, e.silence),
   (1, e.roll.isSome.toNat)]

/-- The fields of a PEERS record that give roll content (R192). -/
def rollFields (r : RollContent) : List (Nat × Nat) :=
  [(1, codeIn [StationState.unconfigured, .active, .parking, .parked] r.state),
   (1, codeIn [Standing.empty, .low, .normal, .surplus] r.standing), (4, r.spare.toNat), (1, r.period.toNat),
   (1, r.generation.toNat), (1, r.canGive.toNat)]

/-- The fields of a STOCK record (R192). -/
def stockFields (index face : Nat) (d : Denom) (openStock : Nat) : List (Nat × Nat) :=
  [(1, index), (2, face), (2, d.onHand), (4, d.received), (4, d.sold), (4, d.inward), (4, d.outward), (4, d.returned),
   (4, d.overFound), (4, d.shortFound), (2, openStock)]

/-- The fields of an OUTBOUND record; those of the other kind are 0 (R192). -/
def outboundFields (r : OutRecord) : List (Nat × Nat) :=
  let state := codeIn [RecordState.unsettled, .stranded] r.state
  match r.body with
  | .credit amount =>
    [(1, r.receiver.val), (2, r.serial.toNat), (1, 0), (1, state), (1, r.sends), (4, amount), (1, 0), (2, 0), (2, 0)]
  | .stock d count face =>
    [(1, r.receiver.val), (2, r.serial.toNat), (1, 1), (1, state), (1, r.sends), (4, 0), (1, d.val), (2, count), (2, face)]

/-- The fields of an IMAGE record, by its position (R192). -/
def imageFields : ImageRecord → List (Nat × Nat)
  | .header station day serial generation count check =>
    [(1, station), (2, day), (4, serial), (1, generation), (1, count), (4, check.toNat)]
  | .registers credit held used loaded given taken settledOut reclaimed =>
    [(4, credit), (4, held), (6, used), (6, loaded), (6, given), (6, taken), (6, settledOut), (6, reclaimed)]
  | .denomination index face d openStock => stockFields index face d openStock
  | .outbound r => outboundFields r

/-- The thirty configuration items in the order of R187: whether each is set, and the value it holds, if it holds one. -/
def ConfigStore.listed (c : ConfigStore) : List (Bool × Option Nat) :=
  let held (x : Setting) : Bool × Option Nat := (x.isSet, some x.value)
  [(c.station.isSome, c.station.map (·.val)), held c.branch, (c.keySet, some c.key.toNat), held c.low, held c.target,
   held c.high, held c.minTransfer, held c.rollPeriod,
   (c.confirmModeSet, some (codeIn [ConfirmMode.immediate, .window, .extended] c.confirmMode)), held c.window,
   held c.inspectDays, held c.graceDays, (c.day.isSome, c.day), held c.denomCount] ++
  c.faces.toList.map fun f => (f.isSome, f)

/-- The item code of a position in region CONFIG: 0 to 13, and 14 for FACE (R187). -/
def itemCode (position : Nat) : Nat := min position 14

/-- The index of a position in region CONFIG: 0, and 0 to 15 for FACE (R187). -/
def itemIndex (position : Nat) : Nat := position - 14

/-- A value outside the range of an item that is then refused (R187). -/
def outsideRange (item n : Nat) : Bool :=
  match item with
  | 0 => n == 0 || 15 < n
  | 1 | 12 => 65535 < n
  | 3 | 4 | 5 => 9999999 < n
  | 8 => 2 < n
  | 13 => 16 < n
  | 14 => n == 0 || 65535 < n
  | _ => false

/-- The number of records of a region (R185). -/
def State.recordCount (s : State) : Region → Nat
  | .journal => s.journal.entries.length
  | .peers => 15
  | .stock => min s.ctl.config.denomCount.value 16
  | .classes => 8
  | .outbound => s.settle.records.length
  | .image => s.ctl.image.length
  | .config => 30

/-! ### Test 1 of R110 -/

/-- The data length of each kind of branch frame (R191). -/
def kindLengths : List (Nat × Nat) :=
  [(1, 8), (2, 3), (3, 3), (4, 3), (5, 3), (6, 3), (7, 3), (8, 5), (9, 1), (10, 5), (11, 4), (12, 8)]

/-- Test 1 of R110: a kind code of 1 to 12, sender bits of 1 to 15, the data length of the kind, and for a ROLL a state
code of 1 to 3 and a standing code of 0 to 3 (R191). -/
def frameAdmitted (identifier : BitVec 11) (data : List Byte) : Bool :=
  let kind := identifier.toNat / 16
  let state := (data.getD 0 0).toNat % 128
  identifier.toNat % 16 != 0 && kindLengths.lookup kind == some data.length &&
    (kind != 12 || (1 ≤ state && state ≤ 3 && (data.getD 1 0).toNat ≤ 3))

/-! ### Which events act -/

/-- The events of the blocks that CONFIG_COMMIT activates: the reservation timers, the line, the balancer and the
settlement unit (R48, R100, R122, R139, R162). -/
def blockEvent : Instr → Bool
  | .deadline _ | .hardLimit _ | .rollTick _ | .backoffWaitEnd | .balancerWake | .offerWindow | .takeWait
  | .answerWait _ | .attempt | .arbitrationLost | .attemptAcknowledged | .attemptFailed | .frameArrival _ _
  | .frameTaken | .peerAbsence _ | .callFrame | .takeFrame | .offerFrame | .noneFrame | .giveFrame | .gotFrame
  | .haveFrame | .voidFrame | .nohaveFrame | .deferFrame | .queryFrame | .silenceSecond => true
  | _ => false

/-- The commands that act without main power: PBUSY as an input, the day on the backup domain, the loss of that domain and
the power-on reset. -/
def actsUnpowered : Instr → Bool
  | .pbusyAsserted | .pbusyReleased | .dayAdvance | .backupLoss | .powerOnReset => true
  | _ => false

/-! ### The frame checks as R181 and R190 list them -/

/-- The command codes of R190. -/
def commandCodes : List Byte :=
  [0x01, 0x02, 0x03, 0x10, 0x11, 0x20, 0x21, 0x22, 0x23, 0x30, 0x40, 0x41, 0x42, 0x50, 0x51, 0x60, 0x61, 0x70, 0x71]

/-- The parameter lengths of the commands that have one length (R190). -/
def fixedLengths : List (Byte × Nat) :=
  [(0x01, 0), (0x02, 3), (0x03, 0), (0x11, 3), (0x20, 3), (0x21, 3), (0x22, 3), (0x23, 4), (0x30, 15), (0x40, 0),
   (0x42, 3), (0x50, 4), (0x51, 6), (0x60, 0), (0x61, 0), (0x70, 10), (0x71, 0)]

/-- Check 1 of R181: the length byte is at most 60 and the frame has that many bytes and three more. -/
def lengthByteFits (frame : List Byte) : Bool :=
  (frame.getD 1 0).toNat ≤ 60 && frame.length == (frame.getD 1 0).toNat + 3

/-- Check 4 of R181, for a frame that passed checks 1 to 3: the length R190 gives its code, or the one its own count or
section declares. -/
def parametersFit (frame : List Byte) : Bool :=
  let n := (frame.getD 1 0).toNat
  match fixedLengths.lookup (frame.getD 0 0) with
  | some k => n == k
  | none =>
    if frame.getD 0 0 = 0x10 then 1 ≤ n && n == 1 + 5 * (frame.getD 2 0).toNat
    else if n < 2 then false
    else if frame.getD 3 0 = 0 then n == 18
    else if frame.getD 3 0 = 1 then 6 ≤ n && n == 6 + 3 * (frame.getD 5 0).toNat
    else if frame.getD 3 0 = 2 then 4 ≤ n && n == 4 + 12 * (frame.getD 5 0).toNat
    else true

/-- The answer of a frame that fails a check, by the order of R181. -/
def frameFault (frame : List Byte) : Option Code :=
  if lengthByteFits frame = false then some .badFrame
  else if byteSum frame ≠ 0 then some .badFrame
  else if frame.getD 0 0 ∉ commandCodes then some .unknownCommand
  else if parametersFit frame = false then some .badLength
  else none

end Sys2Proof.Machine
end

