-- ==== Sys2Proof/Certificates/Slice0/Obligations.lean ====
section
/-! DEFINITION. The statements for the provers. A frame is said as { t with f := s.f } = s: apart from the fields it
names, t is s. -/

section Statements
open Sys2Proof Sys2Proof.Machine

/-! ### The queue and the clock -/

/-- A step takes the command at the front of the queue and is exec of it with the rest of the queue. -/
def Obligations.StepTakesFrontCommand : Prop :=
  ∀ (c : Instr) (rest : List Instr) (s : State),
    step { s with pending := c :: rest } = exec c { s with pending := rest }

/-- Every command answers a next state, in every state, and leaves the queue as it was. -/
def Obligations.EveryCommandCompletesKeepingTheQueue : Prop :=
  ∀ (c : Instr) (s : State), ∃ t, exec c s = .next t ∧ t.pending = s.pending

/-- On an empty queue the model's own clock runs (the model's choice, log entries 1 and 2): the events that are due
become the queue, and when none is due a millisecond passes, for the elapsed-time counts, the running timers and the time
of day, and nothing else. -/
def Obligations.OwnClockRunsOnEmptyQueue : Prop :=
  ∀ s : State, s.pending = [] →
    (∀ i is, s.dueEvents = i :: is → step s = .next { s with pending := i :: is, freeDraws := s.freeDraws + 1 }) ∧
    (s.dueEvents = [] → s.power = .off → step s = .next { s with
      time := if s.dayRuns then s.time.passMs else s.time }) ∧
    (s.dueEvents = [] → s.power = .on → s.ctl.state = .unconfigured → step s = .next { s with
      resv := { s.resv with elapsedMs := s.resv.elapsedMs + 1 } }) ∧
    (s.dueEvents = [] → s.power = .on → s.ctl.state ≠ .unconfigured → step s = .next { s with
      time := if s.dayRuns then s.time.passMs else s.time,
      resv := { s.resv with elapsedMs := s.resv.elapsedMs + 1 },
      line := { s.line with rollTimer := s.line.rollTimer.tick, secondMs := s.line.secondMs + 1 },
      bal := { s.bal with offerWindow := s.bal.offerWindow.tick, takeWait := s.bal.takeWait.tick },
      settle := { s.settle with records := s.settle.records.map fun r => { r with wait := r.wait.tick } } })

/-! ### Host port -/

/-- A request transaction that ends while RDY is low changes nothing but the overrun flag, which it sets while a request
is being handled (R179). -/
def Obligations.RequestWhileRdyLowIsDiscarded : Prop :=
  ∀ (c : Instr) (s : State),
    (c = .requestOverrun ∨ (∃ r, clerkRow r = some c) ∨ (∃ r supv, supervisorRow supv r = some c) ∨
      ∃ frame supv, c = .badFrame frame supv ∧ frame.headD 0 ≠ 0) →
    s.power = .on → s.host.rdy = false →
    exec c s = .next { s with host := { s.host with overrun := s.host.overrun || s.host.answer.isSome } }

/-- Forming the response of a result, or of a SET_DAY with the active generation as it stands then, puts its frame in the
response buffer with the OVERRUN flag and makes RDY high; it empties the request buffer, which is the model's choice (log
entry 19), and changes nothing else. The frame is status, length, data and a check that makes the sum of its bytes 0. A
fetch changes no state and clocks out the response, or NOT_READY while RDY is low or the buffer is empty, then 0xFF; a
request transaction clocks out 0xFF on every byte. The thirty-six codes and the four standings have the numbers of R189's
table and list (R175, R179, R180, R189). -/
def Obligations.ResponseIsFormedAndFetched : Prop :=
  (∀ (a : Answer) (code : Code) (data : List Byte) (s : State), s.power = .on → s.host.answer = some a →
    (a = .result code data ∨ ∃ day count inspection, a = .setDayReport day count inspection ∧ code = .ok ∧
      data = beBytes 2 day ++ beBytes 1 count ++
        [BitVec.ofNat 8 (codeIn [Inspection.current, .due, .lapsed] inspection)] ++ beBytes 1 s.activeGeneration) →
    exec .responseFormed s = .next { s with
      host := { s.host with request := [], response := some (responseFrame code s.host.overrun data), rdy := true,
                            answer := none } }) ∧
  (∀ (code : Code) (overrun : Bool) (data : List Byte),
    byteSum (responseFrame code overrun data) = 0 ∧
    ∃ check, responseFrame code overrun data =
      [BitVec.ofNat 8 (code.number + if overrun then 128 else 0), BitVec.ofNat 8 data.length] ++ data ++ [check]) ∧
  (∀ (s : State) (n : Nat), exec .fetch s = .next s ∧
    (s.host.rdy = false ∨ s.host.response = none → s.clockedOut (0 :: List.replicate (1 + n) 0) =
      0x01 :: List.replicate n 0xFF) ∧
    (∀ f, s.host.rdy = true → s.host.response = some f →
      s.clockedOut (0 :: List.replicate (f.length + n) 0) = f ++ List.replicate n 0xFF)) ∧
  (∀ (s : State) (first : Byte) (more : List Byte), first ≠ 0 →
    s.clockedOut (first :: more) = List.replicate (more.length + 1) 0xFF) ∧
  [Code.ok, .notReady, .badFrame, .badLength, .unknownCommand, .badParameter, .notSupervisor, .wrongState, .configInvalid,
    .noTariff, .classAbsent, .weightRange, .zoneRange, .serviceNotOffered, .itemCap, .insufficientCredit, .reservationFull,
    .tooLate, .itemClosed, .timeLost, .inspectionLapsed, .voucherCheck, .voucherDuplicate, .voucherSequence, .creditCap,
    .journalFull, .denomAbsent, .stockShort, .stockCap, .peerAbsent, .peerBusy, .tariffFormat, .tariffGeneration,
    .dayBackward, .notParked, .endOfRegion].map Code.number = List.range 36 ∧
  [Standing.empty, .low, .normal, .surplus].map Standing.code = [0, 1, 2, 3]

/-- STATUS and the forming of its response: its 70 data bytes are read when the response is formed (log entry 14) and give
the fields of R189 in order, the latched alerts are cleared, LINE_ALONE with them when the line is UP, and nothing outside
the host port changes. The ALERT output is asserted exactly while the alert set holds an alert. That the request buffer is
emptied, and that the bits of the flags and of the alert set without a meaning read 0, are the model's choices (log entries 19
and 43) (R178, R183, R184, R189). -/
def Obligations.StatusReportsAndClearsAlerts : Prop :=
  ∀ s : State,
    (s.ready → exec .status s = .next { s with host := s.host.took .status none .statusReport }) ∧
    (s.power = .on → s.host.answer = some .statusReport →
      exec .responseFormed s = .next { s with
        host := { s.host with
          request := [], response := some (responseFrame .ok s.host.overrun s.statusData), rdy := true, answer := none,
          alerts := { AlertStore.clear with lineAlone := s.host.alerts.lineAlone && s.line.state == .alone } } }) ∧
    s.statusData.length = 70 ∧ laysOut s.statusData s.statusFields ∧
    (s.alertOutput = true ↔ s.host.alerts.lowCredit = true ∨ s.host.alerts.stranded = true ∨
      s.host.alerts.reservationExpired = true ∨ s.host.alerts.journalNearFull = true ∨
      s.host.alerts.inspectionDue = true ∨ s.inspection = .lapsed ∨ s.time.timeLost = true ∨
      s.host.alerts.tariffSwitched = true ∨ s.host.alerts.peerTariffNewer = true ∨ s.host.alerts.lineAlone = true ∨
      s.host.alerts.stationClash = true)

/-- READ_AT answers the record of the region at the index and moves the cursor past it, or answers END and leaves it;
READ_NEXT does the same at the cursor. Each region has the records R185 counts, and each record the fields of R192 in
order. The bytes of roll content that is absent, and of a value that an item does not hold, are free (log entry 7); a flag
reads 1 or 0, and bits 5 to 7 of a JOURNAL record's presence byte read 0 (log entries 36 and 43) (R185, R187, R192). -/
def Obligations.ReadsAnswerTheRecordOrEnd : Prop :=
  (∀ (r : Region) (index : BitVec 16) (s : State), s.ready → (s.ctl.state = .unconfigured → r = .config) →
    (r = .image → s.ctl.state = .parked) →
    (∀ bytes, s.recordAt r index.toNat = some bytes →
      exec (.readAt r.code index) s = .next { s with
        host := { s.host with cursorRegion := r, cursorIndex := index.toNat + 1 }.took (.readAt r.code index) none
          (.result .ok (r.code :: beBytes 2 index.toNat ++ bytes)), freeDraws := s.freeDraws + 1 } ∧
      (s.host.cursorRegion = r → s.host.cursorIndex = index.toNat →
        exec .readNext s = .next { s with
          host := { s.host with cursorIndex := index.toNat + 1 }.took .readNext none
            (.result .ok (r.code :: beBytes 2 index.toNat ++ bytes)), freeDraws := s.freeDraws + 1 })) ∧
    (s.recordAt r index.toNat = none →
      exec (.readAt r.code index) s = .next { s with
        host := s.host.took (.readAt r.code index) none (.result .endOfRegion []) } ∧
      (s.host.cursorRegion = r → s.host.cursorIndex = index.toNat →
        exec .readNext s = .next { s with host := s.host.took .readNext none (.result .endOfRegion []) }))) ∧
  (∀ (s : State) (i : Nat),
    (∀ r : Region, (s.recordAt r i).isSome = true ↔ i < s.recordCount r) ∧
    (∀ r : Region, r.code.toNat = codeIn [Region.journal, .peers, .stock, .classes, .outbound, .image, .config] r) ∧
    (∀ bytes, s.recordAt .journal i = some bytes → ∃ e, s.journal.entries[i]? = some e ∧ laysOut bytes (entryFields e)) ∧
    (∀ (k : Station) (bytes : List Byte), k.val = i + 1 → s.recordAt .peers i = some bytes →
      bytes.length = 14 ∧ laysOut (bytes.take 5) (peerFields k (s.peer k)) ∧
      ∀ c, (s.peer k).roll = some c → laysOut (bytes.drop 5) (rollFields c)) ∧
    (∀ (d : Fin 16) (bytes : List Byte), d.val = i → s.recordAt .stock i = some bytes →
      laysOut bytes (stockFields i (s.face d) s.stock[d] (s.openStock d))) ∧
    (∀ (c : Fin 8) (bytes : List Byte), c.val = i → s.recordAt .classes i = some bytes →
      laysOut bytes [(1, i), (4, s.resv.totals[c].count), (6, s.resv.totals[c].value)]) ∧
    (∀ bytes, s.recordAt .outbound i = some bytes →
      ∃ r, s.settle.records[i]? = some r ∧ laysOut bytes (outboundFields r)) ∧
    (∀ bytes, s.recordAt .image i = some bytes → ∃ x, s.ctl.image[i]? = some x ∧ laysOut bytes (imageFields x)) ∧
    (∀ bytes, s.recordAt .config i = some bytes → ∃ isSet value, s.ctl.config.listed[i]? = some (isSet, value) ∧
      bytes.length = 11 ∧ laysOut (bytes.take 3) [(1, itemCode i), (1, itemIndex i), (1, isSet.toNat)] ∧
      ∀ n, value = some n → laysOut (bytes.drop 3) [(8, n)]))

/-- A taken frame that fails a check of R181 is answered with the code of the first check it fails, by its status alone,
and changes nothing outside the host port. That the request buffer keeps the first 63 bytes of a longer frame, and that SUPV
is sampled for such a frame, are the model's choices (log entries 19 and 33). -/
def Obligations.FailedFrameChecksAreAnsweredInOrder : Prop :=
  ∀ (frame : List Byte) (supv : Bool) (s : State) (c : Code), s.ready → frame.headD 0 ≠ 0 → frameFault frame = some c →
    exec (.badFrame frame supv) s = .next { s with
      host := { s.host with request := frame.take 63, response := none, overrun := false, rdy := false, supv := supv,
                            answer := some (.result c []) } }

/-- A request that passes the frame checks and SUPV and fails an admission test of its command is answered with the code of
the first it fails, by its status alone, and changes nothing outside the host port, as its row and as its frame; a
TARIFF_CLASS with another section code has only its frame (R17, R26, R28, R31, R50, R57, R72, R94, R163, R175, R185, R187).
That READ_AT judges a region code above 6 before the station state is DEDUCED (log entry 27), and that the row BAD_FRAME
carries a frame that passes the checks, which leaves the sample of SUPV for a clerk command, is the model's choice (log
entries 19 and 33). -/
def Obligations.AdmissionRefusalsChangeNothing : Prop :=
  ∀ (r : Request) (c : Instr) (code : Code) (s : State), s.ready → r.wellFormed = true → s.admissionFault r = some code →
    (supervisorRow true r = some c → exec c s = .next { s with host := s.host.took r (some true) (.result code []) }) ∧
    (clerkRow r = some c → exec c s = .next { s with host := s.host.took r none (.result code []) }) ∧
    exec (.badFrame (requestFrame r) true) s = .next { s with
      host := s.host.took r (if (clerkRow r).isSome then none else some true) (.result code []) }

/-- The frame of every well-formed request passes the frame checks and reads back as that request (R181, R189, R190). -/
def Obligations.RequestFramesReadBack : Prop :=
  ∀ r : Request, r.wellFormed = true → checkFrame (requestFrame r) = .ok r

/-- The identifier and data of every branch frame this part can send read back as its sender and content, in at most
eight data bytes; a ROLL announces no UNCONFIGURED station (R101, R110, R191). -/
def Obligations.BranchFramesReadBack : Prop :=
  ∀ (p : Payload) (sender : Station), (∀ c, p = .roll c → c.state ≠ .unconfigured) →
    parseFrame (p.identifier sender) p.data = some { sender := sender, payload := p } ∧ p.data.length ≤ 8 ∧
    (p.identifier sender).toNat = 16 * p.kind + sender.val

/-- A supervisor command written as its frame does what its row does with the same SUPV, and a clerk command what its row
does whatever SUPV is (R181, R182). That the row BAD_FRAME carries any bytes and hands those that pass the checks to their
block, and that the bytes of a clerk command leave the sample of SUPV, are the model's choices (log entries 19 and 33). -/
def Obligations.SupervisorFramesActAsTheirRows : Prop :=
  ∀ (r : Request) (supv : Bool) (c : Instr) (s : State), r.wellFormed = true →
    supervisorRow supv r = some c ∨ clerkRow r = some c → exec (.badFrame (requestFrame r) supv) s = exec c s

/-- Every supervisor command taken without SUPV is answered NOT_SUPERVISOR and changes nothing outside the host port, as its
row and as its frame; a TARIFF_CLASS with another section code has only its frame (R182; log entry 19 on frames). -/
def Obligations.SupervisorCommandsNeedTheKey : Prop :=
  ∀ (r : Request) (s : State), s.ready → r.wellFormed = true →
    (∀ c, supervisorRow false r = some c →
      exec c s = .next { s with host := s.host.took r (some false) (.result .notSupervisor []) }) ∧
    (clerkRow r = none →
      exec (.badFrame (requestFrame r) false) s = .next { s with
        host := s.host.took r (some false) (.result .notSupervisor []) })

/-! ### Account unit -/

/-- The standing is EMPTY at CREDIT 0, LOW below L, NORMAL from L to H and SURPLUS above H, and it moves only with CREDIT:
where it enters LOW or EMPTY from another band LOW_CREDIT latches and the balancer is woken (R12, R13). -/
def Obligations.StandingFollowsCredit : Prop :=
  ∀ s : State, s.ctl.config.low.value < s.ctl.config.high.value →
    (s.acct.credit = 0 → s.standing = .empty) ∧
    (0 < s.acct.credit → s.acct.credit < s.ctl.config.low.value → s.standing = .low) ∧
    (0 < s.acct.credit → s.ctl.config.low.value ≤ s.acct.credit → s.acct.credit ≤ s.ctl.config.high.value →
      s.standing = .normal) ∧
    (s.ctl.config.high.value < s.acct.credit → s.standing = .surplus) ∧
    (∀ c : Nat, s.setCredit c = { s with
      acct := { s.acct with credit := c }, bal := s.balAt c, host := { s.host with alerts := s.alertsAt c } })

/-- A VOUCHER that passes every test: CREDIT and LOADED rise, its serial is recorded, one VOUCHER entry is appended, the
inspection count becomes 0, a move into LOW latches LOW_CREDIT and wakes the balancer, and nothing else changes (R13, R18,
R19, R20). The flag LIMIT reads 1 or 0, which is the model's choice (log entry 36). -/
def Obligations.VoucherAccepted : Prop :=
  ∀ (branch : BitVec 16) (station : Byte) (serial amount check : BitVec 32) (s : State),
    s.ready → s.ctl.state = .active → amount.toNat ≤ 9999999 →
    check = voucherCheck s.ctl.config.key branch station serial amount →
    branch.toNat = s.ctl.config.branch.value → s.ctl.config.station.map (·.val) = some station.toNat →
    serial.toNat = s.acct.lastSerial + 1 → s.acct.credit + s.acct.held + s.openOut + amount.toNat ≤ 9999999 →
    s.acct.loaded + s.acct.taken + s.acct.reclaimed + s.openOut + amount.toNat ≤ 2 ^ 48 - 1 → s.spaceForEntry = true →
    let credit := s.acct.credit + amount.toNat
    exec (.voucher true branch station serial amount check) s = .next { s with
      acct := { s.acct with credit := credit, loaded := s.acct.loaded + amount.toNat, lastSerial := serial.toNat },
      journal := s.journalWith .voucher none (some serial.toNat) none none amount.toNat (some credit),
      time := { s.time with inspection := 0 },
      bal := s.balAt credit,
      host := HostPort.took { s.host with alerts := s.nearFull (s.alertsAt credit) }
        (.voucher branch station serial amount check) (some true)
        (.result .ok (beBytes 4 serial.toNat ++ beBytes 4 credit ++ [(s.standingAt credit).code, flagByte s.acct.limit])) }

/-- An admitted VOUCHER that fails a test of R18 is answered with the code of the first it fails and the values of R20,
and changes nothing but LIMIT, which CREDIT_CAP sets. LIMIT reads 1 or 0 (log entry 36). -/
def Obligations.VoucherTestsInOrder : Prop :=
  ∀ (branch : BitVec 16) (station : Byte) (serial amount check : BitVec 32) (s : State) (c : Code),
    s.ready → s.ctl.state = .active → amount.toNat ≤ 9999999 →
    (if check ≠ voucherCheck s.ctl.config.key branch station serial amount then some Code.voucherCheck
      else if branch.toNat ≠ s.ctl.config.branch.value ∨ s.ctl.config.station.map (·.val) ≠ some station.toNat then
        some .voucherCheck
      else if serial.toNat ≤ s.acct.lastSerial then some .voucherDuplicate
      else if s.acct.lastSerial + 1 < serial.toNat then some .voucherSequence
      else if 9999999 < s.acct.credit + s.acct.held + s.openOut + amount.toNat ∨
          2 ^ 48 - 1 < s.acct.loaded + s.acct.taken + s.acct.reclaimed + s.openOut + amount.toNat then some .creditCap
      else if s.spaceForEntry = false then some .journalFull
      else none) = some c →
    exec (.voucher true branch station serial amount check) s = .next { s with
      acct := { s.acct with limit := s.acct.limit || c == .creditCap },
      host := s.host.took (.voucher branch station serial amount check) (some true)
        (.result c (beBytes 4 s.acct.lastSerial ++ beBytes 4 s.acct.credit ++
          [s.standing.code, flagByte (s.acct.limit || c == .creditCap)])) }

/-- Every step keeps the account's balance: R4's identity, R5's equality, HELD and USED as the sums they are, and the
caps of R2 and R3. -/
def Obligations.CreditBalanceIsKept : Prop :=
  ∀ s t : State, s.CreditBalances → step s = .next t → t.CreditBalances

/-! ### Tariff store and rating -/

/-- TARIFF_OPEN empties the staged bank and makes it OPEN, and leaves the active bank (R27). -/
def Obligations.TariffOpenEmptiesTheStagedBank : Prop :=
  ∀ s : State, s.ready → s.ctl.state = .active →
    exec (.tariffOpen true) s = .next { s with
      tariff := { active := s.tariff.active, stagedState := .opened,
                  staged := { surcharges := Vector.replicate 8 0, classes := Vector.replicate 8 none },
                  stagedGeneration := 0, effectiveDay := 0, assembly := none },
      host := s.host.took .tariffOpen (some true) (.result .ok [1, BitVec.ofNat 8 s.activeGeneration]) }

/-- A surcharge part replaces the staged surcharges, with the three fields of its response that the data book gives no
value free (log entry 7); a head part that passes opens an assembly of its class, and one that fails is answered
TARIFF_FORMAT and leaves no assembly (R29, R30). That the clear flag of completion in the head part's response reads 0 is the
model's choice (log entry 36). -/
def Obligations.SurchargeAndHeadPartsAreTaken : Prop :=
  ∀ s : State, s.ready → s.ctl.state = .active → s.tariff.stagedState = .opened →
    (∀ values : Vector (BitVec 16) 8, ∃ a b c, exec (.tariffClassSurcharge true 8 values) s = .next { s with
      tariff := { s.tariff with staged := { s.tariff.staged with surcharges := values } }, freeDraws := s.freeDraws + 1,
      host := s.host.took (.tariffSurcharge 8 values) (some true) (.result .ok [8, a, b, c]) }) ∧
    (∀ (c : Fin 8) (rounding services bandCount : Byte) (factors : List (BitVec 24)), factors.length ≤ 18 →
      (if rounding.toNat ≤ 1 ∧ 1 ≤ factors.length ∧ factors.length ≤ 16 ∧
          (∀ f ∈ factors, 32768 ≤ f.toNat ∧ f.toNat ≤ 262144) ∧ 1 ≤ bandCount.toNat ∧ bandCount.toNat ≤ 12 then
        exec (.tariffClassHead true (BitVec.ofNat 8 c.val) rounding services bandCount factors) s = .next { s with
          tariff := { s.tariff with assembly := some {
            cls := c, rounding := if rounding = 0 then .up else .half, factors := factors.map (·.toNat),
            services := services, bandCount := bandCount.toNat, bands := [] } },
          host := s.host.took (.tariffHead (BitVec.ofNat 8 c.val) rounding services bandCount factors) (some true)
            (.result .ok [BitVec.ofNat 8 c.val, bandCount, 0, 0]) }
      else
        exec (.tariffClassHead true (BitVec.ofNat 8 c.val) rounding services bandCount factors) s = .next { s with
          tariff := { s.tariff with assembly := none },
          host := s.host.took (.tariffHead (BitVec.ofNat 8 c.val) rounding services bandCount factors) (some true)
            (.result .tariffFormat []) }))

/-- A band part that fits the open assembly: bands within range and rising in upper weight are appended, and the class is
written when its bands are complete; others end the assembly with TARIFF_FORMAT (R31, R32). That a part which completes its
class reports as many bands assembled as its band count is DEDUCED (log entry 26); the flag of completion reads 1 or 0 (log
entry 36). -/
def Obligations.BandPartFillsTheAssembly : Prop :=
  ∀ (a : Assembly) (bands : List BandFields) (s : State), s.ready → s.ctl.state = .active →
    s.tariff.stagedState = .opened → s.tariff.assembly = some a → 1 ≤ bands.length → bands.length ≤ 4 →
    a.bands.length + bands.length ≤ a.bandCount → a.bandCount ≤ 12 →
    let target := BitVec.ofNat 8 a.cls.val
    let first := BitVec.ofNat 8 a.bands.length
    let complete := a.bands.length + bands.length = a.bandCount
    if (lastUpper a.bands :: bands.map (·.upper.toNat)).Pairwise (· < ·) ∧
        ∀ b ∈ bands, b.upper.toNat ≤ 20000 ∧ b.base.toNat ≤ 99999000 ∧ b.stepSize.toNat ≤ 20000 ∧
          b.stepCharge.toNat ≤ 9999000 then
      exec (.tariffClassBands true target first bands) s = .next { s with
        tariff :=
          if complete then
            { s.tariff with
              staged := { s.tariff.staged with
                classes := s.tariff.staged.classes.set a.cls (some {
                  rounding := a.rounding, factors := a.factors, services := a.services,
                  bands := a.bands ++ bands.map bandOf }) },
              assembly := none }
          else { s.tariff with assembly := some { a with bands := a.bands ++ bands.map bandOf } },
        host := s.host.took (.tariffBands target first bands) (some true)
          (.result .ok [target, BitVec.ofNat 8 a.bandCount, BitVec.ofNat 8 (a.bands.length + bands.length),
            if complete then 1 else 0]) }
    else
      exec (.tariffClassBands true target first bands) s = .next { s with
        tariff := { s.tariff with assembly := none },
        host := s.host.took (.tariffBands target first bands) (some true) (.result .tariffFormat []) }

/-- TARIFF_CLOSE of an OPEN bank ends the assembly; a generation above the active one makes the bank READY, or switches it
in at once when its day has come and latches TARIFF_SWITCHED; any other is refused TARIFF_GENERATION (R33, R34). That
the response of a switch reports staged generation and effective day 0 is DEDUCED (log entry 26). -/
def Obligations.TariffCloseMakesReadyOrSwitches : Prop :=
  ∀ (generation : Byte) (day : BitVec 16) (s : State), s.ready → s.ctl.state = .active → s.tariff.stagedState = .opened →
    (generation.toNat ≤ s.activeGeneration →
      exec (.tariffClose true generation day) s = .next { s with
        tariff := { s.tariff with assembly := none },
        host := s.host.took (.tariffClose generation day) (some true) (.result .tariffGeneration []) }) ∧
    (s.activeGeneration < generation.toNat → s.time.day < day.toNat →
      exec (.tariffClose true generation day) s = .next { s with
        tariff := { s.tariff with assembly := none, stagedState := .ready, stagedGeneration := generation.toNat,
                                  effectiveDay := day.toNat },
        host := s.host.took (.tariffClose generation day) (some true)
          (.result .ok ([2, BitVec.ofNat 8 s.activeGeneration, generation] ++ beBytes 2 day.toNat)) }) ∧
    (s.activeGeneration < generation.toNat → day.toNat ≤ s.time.day →
      exec (.tariffClose true generation day) s = .next { s with
        tariff := { active := some { generation := generation.toNat, effectiveDay := day.toNat,
                                     content := s.tariff.staged },
                    stagedState := .empty, staged := BankContent.empty, stagedGeneration := 0, effectiveDay := 0, assembly := none },
        host := { s.host with alerts := { s.host.alerts with tariffSwitched := true } }.took
          (.tariffClose generation day) (some true) (.result .ok [0, generation, 0, 0, 0]) })

/-- The rating of an item: stage 1 refuses it with the code of the first check it fails (R39); else its value is the band
charge of the first band at or above its weight, through the zone charge and the rounding of its class, plus the surcharge of
every service it asks for, and a value above 99,999 cents is refused ITEM_CAP (R44). A batch is rated item by item, and the
first item refused gives its code and index (R38). Stage 3 counts a started step as a whole step, reaches its greatest value
with 20,000 steps of a first band and stays within 48 bits; stage 4 discards the remainder of a product within 64 bits; stage 5
rounds UP and HALF to cents (R38, R39, R41 to R44). That service n is bit n of a mask byte is the model's choice (log entry
41). -/
def Obligations.RatingArithmetic : Prop :=
  (∀ (w lo : Nat) (b : Band), lo < w → w ≤ 20000 → b.base ≤ 99999000 → b.stepSize ≤ 20000 → b.stepCharge ≤ 9999000 →
    (b.stepSize = 0 → bandCharge w lo b = b.base) ∧
    (0 < b.stepSize → ∃ k, 1 ≤ k ∧ k ≤ 20000 ∧ (k - 1) * b.stepSize < w - lo ∧ w - lo ≤ k * b.stepSize ∧
      bandCharge w lo b = b.base + k * b.stepCharge) ∧
    bandCharge w lo b ≤ 200079999000 ∧ bandCharge w lo b < 2 ^ 48) ∧
  (∀ upper : Nat, bandCharge 20000 0 { upper := upper, base := 99999000, stepSize := 1, stepCharge := 9999000 } =
    99999000 + 20000 * 9999000) ∧
  (∀ charge factor : Nat, charge ≤ 200079999000 → factor ≤ 262144 →
    charge * factor ≤ 52449771257856000 ∧ charge * factor < 2 ^ 64 ∧
    65536 * zoneCharge charge factor ≤ charge * factor ∧ charge * factor < 65536 * (zoneCharge charge factor + 1) ∧
    zoneCharge charge factor ≤ 800319996000) ∧
  (∀ z : Nat, roundCents .up z = z / 1000 + (if 0 < z % 1000 then 1 else 0) ∧
    roundCents .half z = z / 1000 + if 500 ≤ z % 1000 then 1 else 0) ∧
  (∀ (content : BankContent) (i : Item),
    (8 ≤ i.cls.toNat → rateItem content i = .error .classAbsent) ∧
    (∀ c : Fin 8, c.val = i.cls.toNat → content.classes[c] = none → rateItem content i = .error .classAbsent) ∧
    (∀ (c : Fin 8) (k : ClassRecord), c.val = i.cls.toNat → content.classes[c] = some k →
      if i.weight.toNat = 0 ∨ lastUpper k.bands < i.weight.toNat then rateItem content i = .error .weightRange
      else if k.factors.length ≤ i.zone.toNat then rateItem content i = .error .zoneRange
      else if ∃ n : Fin 8, i.services.getLsbD n.val = true ∧ k.services.getLsbD n.val = false then
        rateItem content i = .error .serviceNotOffered
      else ∀ (before after : List Band) (b : Band) (factor : Nat), k.bands = before ++ b :: after →
        (∀ x ∈ before, x.upper < i.weight.toNat) → i.weight.toNat ≤ b.upper → k.factors[i.zone.toNat]? = some factor →
        let s (n : Fin 8) : Nat := if i.services.getLsbD n.val then content.surcharges[n].toNat else 0
        let value := roundCents k.rounding (zoneCharge (bandCharge i.weight.toNat (lastUpper before) b) factor) +
          (s 0 + s 1 + s 2 + s 3 + s 4 + s 5 + s 6 + s 7)
        rateItem content i = if 99999 < value then .error .itemCap else .ok (c, value))) ∧
  (∀ (content : BankContent) (items : List Item),
    (∀ rated, rateBatch content 0 items = .ok rated ↔ items.map (rateItem content) = rated.map Except.ok) ∧
    (∀ code n, rateBatch content 0 items = .error (code, n) ↔ ∃ before i after, items = before ++ i :: after ∧
      before.length = n ∧ rateItem content i = .error code ∧ ∀ x ∈ before, ∃ v, rateItem content x = .ok v))

/-- Stage 2 selects the first band whose upper weight is at or above w, and takes as its lower bound the upper weight of
the band before it, or 0; for a weight that stage 1 admits there is one (R40). -/
def Obligations.FirstBandAtOrAboveIsSelected : Prop :=
  ∀ (w : Nat) (bands : List Band), 1 ≤ w → w ≤ lastUpper bands →
    ∃ before b after, bands = before ++ b :: after ∧ (∀ x ∈ before, x.upper < w) ∧ w ≤ b.upper ∧
      bandFor w 0 bands = some (lastUpper before, b) ∧ lastUpper before < w

/-! ### Reservation unit -/

/-- A granted batch in WINDOW or EXTENDED mode: its total moves from CREDIT to HELD, a reservation opens under the first
free id with every item GRANTED, the next id follows it, the answer carries the grant, and nothing else changes but what a
move of CREDIT into LOW or EMPTY latches and wakes (R7, R13, R51, R55, R56). LIMIT reads 1 or 0 (log entry 36). -/
def Obligations.GrantOpensReservation : Prop :=
  ∀ (items : List Item) (bank : Bank) (rated : List (Fin 8 × Nat)) (s : State),
    s.ready → s.ctl.state = .active → s.time.timeLost = false → s.inspection ≠ .lapsed → s.tariff.active = some bank →
    s.resv.table.length < 4 → 1 ≤ items.length → items.length ≤ 8 → rateBatch bank.content 0 items = .ok rated →
    batchTotal rated ≤ s.acct.credit → s.ctl.config.confirmMode ≠ .immediate →
    ∃ n, n ≤ 3 ∧ (∀ m < n, Nat.repeat idAfter m s.resv.nextId ∈ s.resv.table.map (·.id)) ∧
      Nat.repeat idAfter n s.resv.nextId ∉ s.resv.table.map (·.id) ∧
      let id := Nat.repeat idAfter n s.resv.nextId
      let credit := s.acct.credit - batchTotal rated
      let window := 1000 * s.ctl.config.window.value
      exec (.imprint items) s = .next { s with
        acct := { s.acct with credit := credit, held := s.acct.held + batchTotal rated },
        resv := { s.resv with
          table := s.resv.table ++ [{
            id := id, generation := bank.generation, grantTime := s.resv.elapsedMs, deadline := s.resv.elapsedMs + window,
            hardLimit := if s.ctl.config.confirmMode = .extended then some (s.resv.elapsedMs + 4 * window) else none,
            phase := .running, items := rated.map fun v => { cls := v.1, value := v.2, state := .granted } }],
          nextId := idAfter id },
        bal := s.balAt credit,
        host := HostPort.took { s.host with alerts := s.alertsAt credit } (.imprint items) none
          (.result .ok (beBytes 1 id ++ beBytes 1 items.length ++ rated.flatMap (fun v => beBytes 3 v.2) ++
            beBytes 3 (batchTotal rated) ++ beBytes 1 bank.generation ++ beBytes 4 credit ++
            [(s.standingAt credit).code, flagByte s.acct.limit] ++ beBytes 1 s.ctl.config.window.value)) }

/-- A granted batch in IMMEDIATE mode: its total moves from CREDIT to USED, each item joins the totals of its class, no
reservation opens, no id is taken, and nothing else changes but what a move of CREDIT into LOW or EMPTY latches and wakes
(R7, R13, R54, R56, R66). LIMIT reads 1 or 0 (log entry 36). -/
def Obligations.ImmediateGrantCharges : Prop :=
  ∀ (items : List Item) (bank : Bank) (rated : List (Fin 8 × Nat)) (s : State),
    s.ready → s.ctl.state = .active → s.time.timeLost = false → s.inspection ≠ .lapsed → s.tariff.active = some bank →
    s.resv.table.length < 4 → 1 ≤ items.length → items.length ≤ 8 → rateBatch bank.content 0 items = .ok rated →
    batchTotal rated ≤ s.acct.credit → s.ctl.config.confirmMode = .immediate →
    (∀ c : Fin 8, s.resv.totals[c].count ≤ 4294967295) →
    let credit := s.acct.credit - batchTotal rated
    ∃ totals, s.resv.chargedAs { s.resv with totals := totals }
        (rated.map fun v => { cls := v.1, value := v.2, state := .granted }) ∧
      exec (.imprint items) s = .next { s with
        acct := { s.acct with credit := credit, used := s.acct.used + batchTotal rated },
        resv := { s.resv with totals := totals },
        bal := s.balAt credit,
        host := HostPort.took { s.host with alerts := s.alertsAt credit } (.imprint items) none
          (.result .ok (beBytes 1 0 ++ beBytes 1 items.length ++ rated.flatMap (fun v => beBytes 3 v.2) ++
            beBytes 3 (batchTotal rated) ++ beBytes 1 bank.generation ++ beBytes 4 credit ++
            [(s.standingAt credit).code, flagByte s.acct.limit] ++ beBytes 1 0)) }

/-- An IMPRINT of 1 to 8 items that fails one of the first five tests is answered with the code of the first it fails; an
item that cannot be rated refuses the batch with its code and index, ITEM_CAP setting LIMIT; a total above CREDIT is
answered INSUFFICIENT_CREDIT with total, CREDIT and standing. Nothing else changes (R51, R52, R53, R56). LIMIT reads 1 or
0 (log entry 36). -/
def Obligations.ImprintTestsInOrder : Prop :=
  ∀ (items : List Item) (s : State), s.ready → 1 ≤ items.length → items.length ≤ 8 →
    (∀ c, (if s.ctl.state ≠ .active then some Code.wrongState
        else if s.time.timeLost = true then some .timeLost
        else if s.inspection = .lapsed then some .inspectionLapsed
        else if s.tariff.active = none then some .noTariff
        else if 4 ≤ s.resv.table.length then some .reservationFull
        else none) = some c →
      exec (.imprint items) s = .next { s with
        host := s.host.took (.imprint items) none (.result c [0xFF, 0, 0, 0, 0, 0, 0, 0, 0, flagByte s.acct.limit]) }) ∧
    (∀ bank, s.ctl.state = .active → s.time.timeLost = false → s.inspection ≠ .lapsed → s.tariff.active = some bank →
      s.resv.table.length < 4 →
      (∀ c n, rateBatch bank.content 0 items = .error (c, n) →
        exec (.imprint items) s = .next { s with
          acct := { s.acct with limit := s.acct.limit || c == .itemCap },
          host := s.host.took (.imprint items) none (.result c
            [BitVec.ofNat 8 n, 0, 0, 0, 0, 0, 0, 0, 0, flagByte (s.acct.limit || c == .itemCap)]) }) ∧
      (∀ rated, rateBatch bank.content 0 items = .ok rated → s.acct.credit < batchTotal rated →
        exec (.imprint items) s = .next { s with
          host := s.host.took (.imprint items) none (.result .insufficientCredit
            ([0xFF] ++ beBytes 3 (batchTotal rated) ++ beBytes 4 s.acct.credit ++
              [s.standing.code, flagByte s.acct.limit])) }))

/-- A CONFIRM of a GRANTED item: PRINTED moves its value from HELD to USED and into its class totals, FAILED moves it back to
CREDIT; the item takes its state, the reservation leaves the table with its last GRANTED item, and a PARKING station whose
work is then closed enters PARKED. An item no longer GRANTED is answered ITEM_CLOSED with its state (R57, R58, R59). -/
def Obligations.ConfirmClosesItem : Prop :=
  ∀ (id index : Byte) (r : Reservation) (i : ResItem) (s : State), s.ready → s.ctl.state ≠ .unconfigured →
    s.reservation id.toNat = some r → r.items[index.toNat]? = some i →
    let stored (q : Reservation) : List Reservation :=
      if q.grantedItems = [] then s.resv.table.eraseP (·.id == id.toNat)
      else s.resv.table.map fun p => if p.id = id.toNat then q else p
    let granted (q : Reservation) : List Byte := beBytes 1 q.grantedItems.length
    (i.state = .granted →
      let q := r.withItem index.toNat .printed
      let u : State := { s with
        acct := { s.acct with held := s.acct.held - i.value, used := s.acct.used + i.value },
        resv := { s.resv with
          table := stored q,
          totals := s.resv.totals.set i.cls {
            count := min (s.resv.totals[i.cls].count + 1) 4294967295, value := s.resv.totals[i.cls].value + i.value } } }
      exec (.confirm id index 1) s = .next { u with
        ctl := u.notice.ctl,
        host := s.host.took (.confirm id index 1) none (.result .ok ([id, index, 1] ++ granted q ++
          beBytes 4 s.acct.credit ++ beBytes 4 (s.acct.held - i.value) ++ [s.standing.code])) }) ∧
    (i.state = .granted →
      let q := r.withItem index.toNat .failed
      let credit := s.acct.credit + i.value
      let u : State := { s with
        acct := { s.acct with held := s.acct.held - i.value, credit := credit },
        resv := { s.resv with table := stored q }, bal := s.balAt credit }
      exec (.confirm id index 2) s = .next { u with
        ctl := u.notice.ctl,
        host := HostPort.took { s.host with alerts := s.alertsAt credit } (.confirm id index 2) none
          (.result .ok ([id, index, 2] ++ granted q ++ beBytes 4 credit ++ beBytes 4 (s.acct.held - i.value) ++
            [(s.standingAt credit).code])) }) ∧
    (i.state ≠ .granted → ∀ outcome : Byte, outcome = 1 ∨ outcome = 2 →
      exec (.confirm id index outcome) s = .next { s with
        host := s.host.took (.confirm id index outcome) none
          (.result .itemClosed [if i.state = .printed then 1 else 2]) })

/-- The deadline of a RUNNING reservation: in EXTENDED mode with PBUSY asserted it enters WAITING and nothing else changes;
otherwise it expires. A deadline that finds no RUNNING reservation with its id changes nothing (R60, R61, R63). -/
def Obligations.DeadlineExpiresOrWaits : Prop :=
  (∀ (id : Byte) (s : State), (∀ r ∈ s.resv.table, r.id = id.toNat → r.phase ≠ .running) →
    exec (.deadline id) s = .next s) ∧
  ∀ (id : Byte) (r : Reservation) (s : State), s.power = .on → s.ctl.state ≠ .unconfigured →
    s.reservation id.toNat = some r → r.phase = .running → (∀ c : Fin 8, s.resv.totals[c].count ≤ 4294967295) →
    (s.ctl.config.confirmMode = .extended → s.pbusy = true →
      exec (.deadline id) s = .next { s with
        resv := { s.resv with
          table := s.resv.table.map fun q => if q.id = id.toNat then { q with phase := .waiting } else q } }) ∧
    (s.ctl.config.confirmMode ≠ .extended ∨ s.pbusy = false →
      ∃ t, exec (.deadline id) s = .next t ∧ s.expiredAs t r)

/-- A hard limit expires its WAITING reservation whatever PBUSY is, and one that finds none with its id, as after a release
taken first, changes nothing; an assertion of PBUSY changes no reservation; a release
changes none outside EXTENDED mode, and in it expires every WAITING reservation, as value events whose values and class
totals add up, leaves the others, and brings a PARKING station whose work is then closed to PARKED (R59, R61 to R64). A
PARKING station has open work (R164, stated by ParkImageStaysTrue). -/
def Obligations.HardLimitAndPbusyEndWaits : Prop :=
  (∀ (id : Byte) (s : State), (∀ r ∈ s.resv.table, r.id = id.toNat → r.phase ≠ .waiting) →
    exec (.hardLimit id) s = .next s) ∧
  (∀ (id : Byte) (r : Reservation) (s : State), s.power = .on → s.ctl.state ≠ .unconfigured →
    s.reservation id.toNat = some r → r.phase = .waiting → (∀ c : Fin 8, s.resv.totals[c].count ≤ 4294967295) →
    ∃ t, exec (.hardLimit id) s = .next t ∧ s.expiredAs t r) ∧
  (∀ s : State, exec .pbusyAsserted s = .next { s with pbusy := true }) ∧
  (∀ s : State, s.ctl.config.confirmMode ≠ .extended → exec .pbusyReleased s = .next { s with pbusy := false }) ∧
  (∀ s : State, s.power = .on → s.ctl.state ≠ .unconfigured → s.ctl.config.confirmMode = .extended →
    (s.resv.table.map (·.id)).Nodup → (∀ c : Fin 8, s.resv.totals[c].count ≤ 4294967295) →
    (s.ctl.state = .parking → s.resv.table = [] → ∃ r ∈ s.settle.records, r.state = .unsettled) →
    let waiting := s.resv.table.filter (·.phase == .waiting)
    let value := (waiting.map Reservation.grantedValue).sum
    ∃ totals, s.resv.chargedAs { s.resv with totals := totals } (waiting.flatMap Reservation.grantedItems) ∧
      let u : State := { s with
        pbusy := false,
        resv := { s.resv with table := s.resv.table.filter (·.phase == .running), totals := totals },
        acct := { s.acct with held := s.acct.held - value, used := s.acct.used + value },
        host := { s.host with alerts := { s.host.alerts with
          reservationExpired := s.host.alerts.reservationExpired ||
            waiting.any fun r => !r.grantedItems.isEmpty } } }
      exec .pbusyReleased s = .next { u with ctl := u.notice.ctl })

/-! ### Stock unit -/

/-- An admitted SELL: an index at or above DENOM_COUNT is refused DENOM_ABSENT, a count above ON_HAND STOCK_SHORT, and
otherwise ON_HAND falls by the count and SOLD rises by it; no entry, no register and nothing else changes (R73, R74). -/
def Obligations.SellTakesStampsOrRefuses : Prop :=
  ∀ (denom : Byte) (count : BitVec 16) (s : State), s.ready → s.ctl.state = .active → 1 ≤ count.toNat →
    count.toNat ≤ 999 → s.ctl.config.denomCount.value ≤ 16 →
    (s.ctl.config.denomCount.value ≤ denom.toNat →
      exec (.sell denom count) s = .next { s with
        host := s.host.took (.sell denom count) none
          (.result .denomAbsent (denom :: beBytes 2 count.toNat ++ [0, 0] ++ [0, 0, 0, 0])) }) ∧
    (∀ d : Fin 16, d.val = denom.toNat → d.val < s.ctl.config.denomCount.value →
      (s.stock[d].onHand < count.toNat →
        exec (.sell denom count) s = .next { s with
          host := s.host.took (.sell denom count) none
            (.result .stockShort (denom :: beBytes 2 count.toNat ++ beBytes 2 s.stock[d].onHand ++ [0, 0, 0, 0])) }) ∧
      (count.toNat ≤ s.stock[d].onHand →
        exec (.sell denom count) s = .next { s with
          stock := s.stock.set d { s.stock[d] with
            onHand := s.stock[d].onHand - count.toNat, sold := s.stock[d].sold + count.toNat },
          host := s.host.took (.sell denom count) none (.result .ok (denom :: beBytes 2 count.toNat ++
            beBytes 2 (s.stock[d].onHand - count.toNat) ++ beBytes 4 (count.toNat * s.face d))) }))

/-- An admitted STOCK_IN: a denomination that does not exist is refused DENOM_ABSENT, its reported values free (log entry
6); past a bound of R70 it is refused STOCK_CAP and sets LIMIT, without journal space JOURNAL_FULL, and otherwise RECEIVED
and ON_HAND rise with a STOCK_IN entry (R70, R75, R92). LIMIT reads 1 or 0 (log entry 36). -/
def Obligations.StockInDeliversOrRefuses : Prop :=
  ∀ (denom : Byte) (count : BitVec 16) (s : State), s.ready → s.ctl.state = .active → 1 ≤ count.toNat →
    s.ctl.config.denomCount.value ≤ 16 →
    let answered (h : HostPort) (c : Code) (data : List Byte) : HostPort :=
      h.took (.stockIn denom count) (some true) (.result c (denom :: data))
    (s.ctl.config.denomCount.value ≤ denom.toNat →
      ∃ (onHand : BitVec 16) (received : BitVec 32), exec (.stockIn true denom count) s = .next { s with
        freeDraws := s.freeDraws + 1,
        host := answered s.host .denomAbsent
          (beBytes 2 onHand.toNat ++ beBytes 4 received.toNat ++ [flagByte s.acct.limit]) }) ∧
    (∀ d : Fin 16, d.val = denom.toNat → d.val < s.ctl.config.denomCount.value →
      let now := beBytes 2 s.stock[d].onHand ++ beBytes 4 s.stock[d].received
      let onHand := s.stock[d].onHand + count.toNat
      let received := s.stock[d].received + count.toNat
      if 65535 < onHand + s.openStock d ∨ 4294967295 < s.stockTotal d + count.toNat then
        exec (.stockIn true denom count) s = .next { s with
          acct := { s.acct with limit := true }, host := answered s.host .stockCap (now ++ [1]) }
      else if s.spaceForEntry = false then
        exec (.stockIn true denom count) s = .next { s with
          host := answered s.host .journalFull (now ++ [flagByte s.acct.limit]) }
      else
        exec (.stockIn true denom count) s = .next { s with
          stock := s.stock.set d { s.stock[d] with onHand := onHand, received := received },
          journal := s.journalWith .stockIn none none (some d) none count.toNat (some onHand),
          host := answered { s.host with alerts := s.nearFull s.host.alerts } .ok
            (beBytes 2 onHand ++ beBytes 4 received ++ [flagByte s.acct.limit]) })

/-- An admitted COUNT: a denomination that does not exist is refused DENOM_ABSENT, its reported counters free (log entry 6);
more stamps than a bound of R70 allows are refused STOCK_CAP and set LIMIT; an equal count changes nothing; a difference
needs journal space, sets ON_HAND to the count, joins OVER or SHORT and appends a COUNT_ADJUST entry (R70, R76, R77). That
a refused COUNT reports the difference formed is DEDUCED (log entry 18); LIMIT reads 1 or 0 (log entry 36). -/
def Obligations.CountSetsOnHandOrRefuses : Prop :=
  ∀ (denom : Byte) (count : BitVec 16) (s : State), s.ready → s.ctl.state = .active →
    s.ctl.config.denomCount.value ≤ 16 →
    let p := count.toNat
    let reported (before after overs shorts : Nat) (limit : Bool) : List Byte :=
      denom :: beBytes 2 before ++ beBytes 2 after ++ beBytes 2 (if before ≤ p then p - before else before - p) ++
        [if before < p then 1 else if p < before then 2 else 0] ++ beBytes 4 overs ++ beBytes 4 shorts ++ [flagByte limit]
    let answered (h : HostPort) (c : Code) (data : List Byte) : HostPort :=
      h.took (.count denom count) (some true) (.result c data)
    (s.ctl.config.denomCount.value ≤ denom.toNat →
      ∃ (onHand : BitVec 16) (overs shorts : BitVec 32), exec (.count true denom count) s = .next { s with
        freeDraws := s.freeDraws + 1,
        host := answered s.host .denomAbsent
          (reported onHand.toNat onHand.toNat overs.toNat shorts.toNat s.acct.limit) }) ∧
    (∀ d : Fin 16, d.val = denom.toNat → d.val < s.ctl.config.denomCount.value →
      let x := s.stock[d]
      if x.onHand < p ∧ (65535 < p + s.openStock d ∨ 4294967295 < s.stockTotal d + (p - x.onHand)) then
        exec (.count true denom count) s = .next { s with
          acct := { s.acct with limit := true },
          host := answered s.host .stockCap (reported x.onHand x.onHand x.overFound x.shortFound true) }
      else if p = x.onHand then
        exec (.count true denom count) s = .next { s with
          host := answered s.host .ok (reported p p x.overFound x.shortFound s.acct.limit) }
      else if s.spaceForEntry = false then
        exec (.count true denom count) s = .next { s with
          host := answered s.host .journalFull (reported x.onHand x.onHand x.overFound x.shortFound s.acct.limit) }
      else if x.onHand < p then
        exec (.count true denom count) s = .next { s with
          stock := s.stock.set d { x with onHand := p, overFound := x.overFound + (p - x.onHand) },
          journal := s.journalWith .countAdjust none none (some d) (some .overage) (p - x.onHand) (some p),
          host := answered { s.host with alerts := s.nearFull s.host.alerts } .ok
            (reported x.onHand p (x.overFound + (p - x.onHand)) x.shortFound s.acct.limit) }
      else
        exec (.count true denom count) s = .next { s with
          stock := s.stock.set d { x with onHand := p, shortFound := x.shortFound + (x.onHand - p) },
          journal := s.journalWith .countAdjust none none (some d) (some .shortage) (x.onHand - p) (some p),
          host := answered { s.host with alerts := s.nearFull s.host.alerts } .ok
            (reported x.onHand p x.overFound (x.shortFound + (x.onHand - p)) s.acct.limit) })

/-- An admitted CONSIGN that passes every test: ON_HAND falls, OUT rises, a stock record opens under the next serial with a
GIVE_STOCK entry, and its GIVE is placed. One that fails a test is answered with the code of the first it fails, LIMIT and
ON_HAND, and changes nothing but LIMIT, which STOCK_CAP sets; the ON_HAND of a denomination that does not exist is free
(R78, R79, R141, R142; log entry 6). LIMIT reads 1 or 0 (log entry 36). -/
def Obligations.ConsignOpensAStockRecord : Prop :=
  ∀ (k : Station) (denom : Byte) (count : BitVec 16) (s : State), s.ready → s.ctl.state = .active →
    s.ctl.config.station ≠ some k → 1 ≤ count.toNat → s.ctl.config.denomCount.value ≤ 16 →
    let station := BitVec.ofNat 8 k.val
    let n := count.toNat
    let answered (h : HostPort) (c : Code) (data : List Byte) : HostPort :=
      h.took (.consign station denom count) (some true) (.result c data)
    (s.ctl.config.denomCount.value ≤ denom.toNat →
      ∃ onHand : BitVec 16, exec (.consign true station denom count) s = .next { s with
        freeDraws := s.freeDraws + 1,
        host := answered s.host .denomAbsent (flagByte s.acct.limit :: beBytes 2 onHand.toNat) }) ∧
    (∀ d : Fin 16, d.val = denom.toNat → d.val < s.ctl.config.denomCount.value →
      let x := s.stock[d]
      let refused (c : Code) : Prop :=
        exec (.consign true station denom count) s = .next { s with
          acct := { s.acct with limit := s.acct.limit || c == .stockCap },
          host := answered s.host c (flagByte (s.acct.limit || c == .stockCap) :: beBytes 2 x.onHand) }
      if (s.peer k).presence ≠ .present ∨ (s.peer k).roll.map (·.state) ≠ some .active then refused .peerAbsent
      else if k ∈ s.settle.records.map (·.receiver) ∨ 4 ≤ s.settle.records.length then refused .peerBusy
      else if x.onHand < n then refused .stockShort
      else if 4294967295 < s.stockTotal d + n then refused .stockCap
      else if s.spaceForGive = false then refused .journalFull
      else
        let serial := s.settle.giveSerial + 1
        exec (.consign true station denom count) s = .next (({ s with
          stock := s.stock.set d { x with onHand := x.onHand - n, outward := x.outward + n },
          settle := { s.settle with
            giveSerial := serial,
            records := s.settle.records ++ [{ receiver := k, serial := serial, body := .stock d n (s.face d),
                                              state := .unsettled, sends := 1, wait := .stopped }] },
          journal := s.journalWith .giveStock (some k) (some serial.toNat) (some d) none n (some (x.onHand - n)),
          host := answered { s.host with alerts := s.nearFull s.host.alerts } .ok
            (station :: beBytes 2 serial.toNat ++ [denom] ++ beBytes 2 n ++ beBytes 2 (x.onHand - n) ++
              beBytes 4 (x.outward + n)) } : State).place
          (.give station serial (.stock (BitVec.ofNat 4 d.val) count (BitVec.ofNat 16 (s.face d))))))

/-- Every step keeps each denomination's balance: the identity of R69 and the two bounds of R70. -/
def Obligations.StockBalanceIsKept : Prop :=
  ∀ s t : State, s.StockBalances → step s = .next t → t.StockBalances

/-! ### Journal -/

/-- The journal has space for an entry, and for a give, by the occupancy and the next sequence number as the table of R89
gives it. AUDIT_CLOSE in a committed station removes the entries up to q, keeps the next sequence number, clears LIMIT,
lowers a cursor in region JOURNAL by the number removed, and changes nothing else (R89, R94, R95, R96). The cleared LIMIT
reads 0 (log entry 36). -/
def Obligations.AuditCloseRemovesEntriesUpTo : Prop :=
  (∀ s : State,
    (s.spaceForEntry = true ↔ s.journal.entries.length + s.settle.records.length + 1 ≤ 240 ∧
      s.journal.nextSeq + s.settle.records.length ≤ 4294967294) ∧
    (s.spaceForGive = true ↔ s.journal.entries.length + s.settle.records.length + 2 ≤ 240 ∧
      s.journal.nextSeq + s.settle.records.length + 1 ≤ 4294967294)) ∧
  ∀ (q : BitVec 32) (s : State), s.ready → s.ctl.state ≠ .unconfigured →
    ∃ t, exec (.auditClose true q) s = .next t ∧
      t.journal = { s.journal with entries := s.journal.entries.filter fun e => q.toNat < e.seq } ∧
      t.acct = { s.acct with limit := false } ∧
      t.host = { s.host with
        cursorIndex := if s.host.cursorRegion = Region.journal then
            s.host.cursorIndex - (s.journal.entries.length - t.journal.entries.length) else s.host.cursorIndex }.took
        (.auditClose q) (some true)
        (.result .ok (beBytes 1 (s.journal.entries.length - t.journal.entries.length) ++
          beBytes 1 t.journal.entries.length ++ beBytes 4 ((t.journal.entries.head?.map fun e : Entry => e.seq).getD 0) ++
          beBytes 4 s.journal.nextSeq ++ [0])) ∧
      { t with journal := s.journal, acct := s.acct, host := s.host } = s

/-- Every step keeps the journal in order and within its space, and the outbound list within its limits (R84, R87, R89,
R90, R141). -/
def Obligations.JournalOrderAndSpaceAreKept : Prop :=
  ∀ s t : State, s.JournalSound → step s = .next t → t.JournalSound

/-! ### Line controller -/

/-- A frame placed on the transmit queue: while ALONE one that is no ROLL is dropped; a ROLL takes the place of one that
waits, with attempt count 0 (DEDUCED, log entry 21), of two that wait the first (the model's choice, log entry 38, as is that the last in the queue counts as placed last); with room a frame stands behind those of equal or lower identifier; on a
full queue it displaces the last waiting frame when that one's identifier is higher and is dropped otherwise, as a ROLL
always is. A dropped frame counts as a queue drop, and a GIVE dropped starts the answer wait of its UNSETTLED record; nothing
else changes (R105 to R109, R142). Within one station identifiers order as kind codes (R101). -/
def Obligations.PlacementFollowsTheQueueRules : Prop :=
  (∀ (p : Payload) (s : State), (s.line.tx.map (·.payload.kind)).Pairwise (· ≤ ·) →
    let dropped (q : Payload) (tx : List TxEntry) : State := { s with
      line := { s.line with tx := tx, queueDrops := min (s.line.queueDrops + 1) 65535 },
      settle := { s.settle with records := s.settle.records.map (startWait q) } }
    (s.line.state = .alone → p.isRoll = false → s.place p = dropped p s.line.tx) ∧
    (∀ a x b, s.line.tx = a ++ x :: b → p.isRoll = true → x.payload.isRoll = true → x.inProgress = false →
      (∀ y ∈ a, y.payload.isRoll = true → y.inProgress = true) →
      s.place p = { s with line := { s.line with tx := a ++ .fresh p :: b } }) ∧
    (s.line.state = .up ∨ p.isRoll = true →
      (p.isRoll = true → ∀ y ∈ s.line.tx, y.payload.isRoll = true → y.inProgress = true) → s.line.tx.length < 8 →
      ∃ a b, s.line.tx = a ++ b ∧ (∀ y ∈ a, y.payload.kind ≤ p.kind) ∧ (∀ y ∈ b, p.kind < y.payload.kind) ∧
        s.place p = { s with line := { s.line with tx := a ++ .fresh p :: b } }) ∧
    (∀ a x b, s.line.tx = a ++ x :: b → s.line.state = .up → p.isRoll = false → 8 ≤ s.line.tx.length →
      x.inProgress = false → (∀ y ∈ b, y.inProgress = true) →
      if p.kind < x.payload.kind then
        ∃ c d, a ++ b = c ++ d ∧ (∀ y ∈ c, y.payload.kind ≤ p.kind) ∧ (∀ y ∈ d, p.kind < y.payload.kind) ∧
          s.place p = dropped x.payload (c ++ .fresh p :: d)
      else s.place p = dropped p s.line.tx) ∧
    (8 ≤ s.line.tx.length →
      (p.isRoll = true ∧ ∀ y ∈ s.line.tx, y.payload.isRoll = true → y.inProgress = true) ∨
        (∀ y ∈ s.line.tx, y.inProgress = true) → s.place p = dropped p s.line.tx)) ∧
  (∀ (p : Payload) (r : OutRecord),
    ((∃ dest body, p = .give dest r.serial body ∧ dest.toNat = r.receiver.val) → r.state = .unsettled →
      startWait p r = { r with wait := .running 500 }) ∧
    (¬ (∃ dest body, p = .give dest r.serial body ∧ dest.toNat = r.receiver.val) ∨ r.state = .stranded →
      startWait p r = r))

/-- The line free: the frame at the front of the queue is in progress and nothing else changes. Arbitration lost: the frame
in progress stays in its place with its attempt count; a withdrawn GIVE leaves (R102, R143). -/
def Obligations.AttemptsBeginAndLoseArbitration : Prop :=
  ∀ s : State, s.power = .on → s.ctl.state ≠ .unconfigured →
    (∀ e rest, s.line.tx = e :: rest → (∀ y ∈ s.line.tx, y.inProgress = false) →
      exec .attempt s = .next { s with line := { s.line with tx := { e with inProgress := true } :: rest } }) ∧
    (∀ a e b, s.line.tx = a ++ e :: b → e.inProgress = true → (∀ y ∈ a, y.inProgress = false) →
      exec .arbitrationLost s = .next { s with line := { s.line with
        tx := if e.cancelled then a ++ b else a ++ { e with inProgress := false } :: b } })

/-- An acknowledged frame leaves the queue, the run count becomes 0, an acknowledged ROLL returns the line to UP, and the
answer wait of an UNSETTLED record starts with its GIVE. A failed attempt raises the attempt count; the sixteenth in UP and the
single one in ALONE drop the frame and count it, and the eighth run drop enters ALONE with an empty queue and LINE_ALONE
pending (R102 to R105, R142). -/
def Obligations.AttemptsEndAcknowledgedOrFailed : Prop :=
  ∀ (a b : List TxEntry) (e : TxEntry) (s : State), s.power = .on → s.ctl.state ≠ .unconfigured →
    s.line.tx = a ++ e :: b → e.inProgress = true → (∀ y ∈ a, y.inProgress = false) →
    exec .attemptAcknowledged s = .next { s with
      line := { s.line with
        tx := a ++ b, runCount := 0, state := if e.payload.isRoll then .up else s.line.state },
      settle := { s.settle with records := s.settle.records.map (startWait e.payload) } } ∧
    (e.cancelled = true → exec .attemptFailed s = .next { s with line := { s.line with tx := a ++ b } }) ∧
    (e.cancelled = false → s.line.state = .alone → exec .attemptFailed s = .next { s with
      line := { s.line with tx := a ++ b, attemptDrops := min (s.line.attemptDrops + 1) 65535 },
      settle := { s.settle with records := s.settle.records.map (startWait e.payload) } }) ∧
    (e.cancelled = false → s.line.state = .up → e.attempts + 1 < 16 → exec .attemptFailed s = .next { s with
      line := { s.line with tx := a ++ { e with attempts := e.attempts + 1, inProgress := false } :: b } }) ∧
    (e.cancelled = false → s.line.state = .up → e.attempts + 1 = 16 → s.line.runCount < 7 →
      exec .attemptFailed s = .next { s with
        line := { s.line with
          tx := a ++ b, attemptDrops := min (s.line.attemptDrops + 1) 65535, runCount := s.line.runCount + 1 },
        settle := { s.settle with records := s.settle.records.map (startWait e.payload) } }) ∧
    (e.cancelled = false → s.line.state = .up → e.attempts + 1 = 16 → s.line.runCount = 7 →
      exec .attemptFailed s = .next { s with
        line := { s.line with
          state := .alone, tx := [], runCount := 8, attemptDrops := min (s.line.attemptDrops + 1) 65535,
          queueDrops := min (s.line.queueDrops + (a ++ b).length) 65535 },
        host := { s.host with alerts := { s.host.alerts with lineAlone := true } },
        settle := { s.settle with records := s.settle.records.map fun r =>
          if r.state = .unsettled ∧ (e :: (a ++ b)).any (·.payload.isGiveOf r.receiver r.serial) = true then
            { r with wait := .running 500 } else r } })

/-- A frame that arrives: one that test 1 of R110 does not admit changes nothing; an admitted one is the frame its
identifier and bytes spell, returns the line to UP, and latches STATION_CLASH when it bears this station's own number; the
rest enter the receive queue, or at sixteen frames are dropped and counted (R105, R110, R191). That bits 4 to 6 of the kind
byte of a stock GIVE are not read is DEDUCED (log entry 28); that a held frame is none of the sixteen is the model's choice
(log entry 44). -/
def Obligations.ArrivalIsJudgedInOrder : Prop :=
  ∀ (identifier : BitVec 11) (data : List Byte) (s : State), s.power = .on → s.ctl.state ≠ .unconfigured →
    (frameAdmitted identifier data = false → exec (.frameArrival identifier data) s = .next s) ∧
    (frameAdmitted identifier data = true → ∃ f t, parseFrame identifier data = some f ∧
      f.sender.val = identifier.toNat % 16 ∧ f.payload.kind = identifier.toNat / 16 ∧
      (f.payload.kind ≠ 1 → f.payload.data = data) ∧
      (f.payload.kind = 1 → f.payload.data.take 3 = data.take 3 ∧ f.payload.data.drop 4 = data.drop 4 ∧
        (f.payload.data.getD 3 0).toNat =
          if (data.getD 3 0).getLsbD 7 then 128 + (data.getD 3 0).toNat % 16 else 0) ∧
      exec (.frameArrival identifier data) s = .next t ∧
        t.line.state = .up ∧ t.line.runCount = (if s.line.state = .alone then 0 else s.line.runCount) ∧
        (if s.ctl.config.station = some f.sender then
          t.host.alerts = { s.host.alerts with stationClash := true } ∧ t.line.rx = s.line.rx ∧
            t.line.receiveDrops = s.line.receiveDrops
        else if s.line.rx.length < 16 then
          t.host = s.host ∧ t.line.rx = s.line.rx ++ [f] ∧ t.line.receiveDrops = s.line.receiveDrops
        else
          t.host = s.host ∧ t.line.rx = s.line.rx ∧ t.line.receiveDrops = min (s.line.receiveDrops + 1) 65535) ∧
        { t with
          host := { t.host with alerts := s.host.alerts },
          line := { t.line with
            state := s.line.state, runCount := s.line.runCount, rx := s.line.rx,
            receiveDrops := s.line.receiveDrops } } = s)

/-- The front frame of the receive queue is taken when no frame is held: its sender becomes PRESENT with silence 0, a ROLL
replaces the roll content with its period brought within 1 to 60 and can latch PEER_TARIFF_NEWER. A CALL goes to the offerer
from any sender; of the kinds that carry an addressed station in their first byte, one for this station goes to the offerer
(TAKE), the balancer (OFFER, NONE) or the settlement unit (the seven others), one for another station to no block, and so does
a ROLL; it is held while its block has not taken the one before. A block that takes its frame leaves its slot to the frame
held for it, if any. Nothing else changes (R101, R111, R115, R116, R119). That the offerer and the balancer take their frames
as two blocks, and that a held frame has left its place in the queue, is the model's choice (log entries 12 and 44). -/
def Obligations.FrontFrameIsTaken : Prop :=
  let block (p : Payload) : Option Handler := match p with
    | .call _ | .take _ _ => some .offerer
    | .offer _ _ | .noneLeft _ => some .balancer
    | .give _ _ _ | .reply _ _ _ | .query _ _ => some .settlement
    | .roll _ => none
  (∀ (h : Handler) (s : State),
    let t := s.frameTakenBy h
    (∀ f, s.line.holding = some f → block f.payload = some h → t.line.handed h = some f ∧ t.line.holding = none) ∧
    ((∀ f, s.line.holding = some f → block f.payload ≠ some h) →
      t.line.handed h = none ∧ t.line.holding = s.line.holding) ∧
    (∀ g : Handler, g ≠ h → t.line.handed g = s.line.handed g) ∧
    { t with line := { t.line with
        holding := s.line.holding, toOfferer := s.line.toOfferer, toBalancer := s.line.toBalancer,
        toSettlement := s.line.toSettlement } } = s) ∧
  ∀ (f : Frame) (rest : List Frame) (s : State), s.power = .on → s.ctl.state ≠ .unconfigured →
    s.line.rx = f :: rest → s.line.holding = none →
    let forThis : Prop :=
      (∃ need, f.payload = .call need) ∨ s.ctl.config.station.map (·.val) = some (f.payload.data.headD 0).toNat
    ∃ t, exec .frameTaken s = .next t ∧ t.line.rx = rest ∧
      (t.peer f.sender).presence = .present ∧ (t.peer f.sender).silence = 0 ∧
      (t.peer f.sender).roll = (match f.payload with
        | .roll c => some { c with
            period := if c.period.toNat = 0 then 1 else if 60 < c.period.toNat then 60 else c.period }
        | _ => (s.peer f.sender).roll) ∧
      (∀ k : Station, k ≠ f.sender → t.peer k = s.peer k) ∧
      (∀ h : Handler,
        (block f.payload = some h → forThis → s.line.handed h = none →
          t.line.handed h = some f ∧ t.line.holding = none) ∧
        (block f.payload = some h → forThis → s.line.handed h ≠ none →
          t.line.handed h = s.line.handed h ∧ t.line.holding = some f) ∧
        (block f.payload ≠ some h ∨ ¬ forThis → t.line.handed h = s.line.handed h)) ∧
      (block f.payload = none ∨ ¬ forThis → t.line.holding = none) ∧
      t.host.alerts.peerTariffNewer = (s.host.alerts.peerTariffNewer ||
        match f.payload with
        | .roll c => decide (s.activeGeneration < c.generation.toNat ∧
            s.reportedStagedGeneration < c.generation.toNat ∧
            (s.peer f.sender).roll.map (·.generation) ≠ some c.generation)
        | _ => false) ∧
      { t with
        host := { t.host with alerts := { t.host.alerts with peerTariffNewer := s.host.alerts.peerTariffNewer } },
        line := { t.line with
          rx := s.line.rx, peers := s.line.peers, holding := s.line.holding, toOfferer := s.line.toOfferer,
          toBalancer := s.line.toBalancer, toSettlement := s.line.toSettlement } } = s

/-- A second raises the silence of every PRESENT and every ABSENT entry by one, at most to 65,535, and of no other; a
PRESENT entry whose silence has reached three times its period, 60 seconds without roll content, becomes ABSENT and keeps the
rest. The count of the second restarts (R117). -/
def Obligations.SilenceRaisesAndAbsenceFollows : Prop :=
  ∀ s : State, s.power = .on → s.ctl.state ≠ .unconfigured →
    (∃ t, exec .silenceSecond s = .next t ∧
      t.line.secondMs = 0 ∧
      (∀ k : Station, t.peer k = { s.peer k with
        silence := if (s.peer k).presence = .present ∨ (s.peer k).presence = .absent then
          min ((s.peer k).silence + 1) 65535 else (s.peer k).silence }) ∧
      { t with line := { t.line with peers := s.line.peers, secondMs := s.line.secondMs } } = s) ∧
    (∀ k : Station, ∃ t, exec (.peerAbsence k) s = .next t ∧
      t.peer k = { s.peer k with
        presence := if (s.peer k).presence = .present ∧
            3 * (((s.peer k).roll.map (·.period.toNat)).getD 60) ≤ (s.peer k).silence then .absent
          else (s.peer k).presence } ∧
      (∀ j : Station, j ≠ k → t.peer j = s.peer j) ∧ { t with line := { t.line with peers := s.line.peers } } = s)

/-- A roll tick, whatever the order of its three shares: the timer runs for one ROLL_PERIOD, the self entry takes the six
values of the moment, and a backoff wait above 0 falls by one. When the wait is then 0 and the rest of the start test passes,
a call starts; otherwise the balancer is as it was but for the wait. With the line UP and an empty queue the queue then holds a
QUERY of every STRANDED record whose receiver is PRESENT, in list order and none while PARKED, the CALL of a started call, and
a ROLL of those values. Whatever the line state and the queue were, these frames, without a QUERY of a record of which one
waits, are placed one after another, the shares in their order, by the rules of placement, and no other frame is; while ALONE
the ROLL is placed and every QUERY dropped and counted. No register, entry, record, stamp or reservation changes, and of the
line only the timer, the self entry, the queue and its drop count (R105, R107, R108, R112, R113, R114, R123, R124, R128,
R154). That a QUERY in progress is not one that waits is DEDUCED (log entry 16). -/
def Obligations.RollTickAnnouncesAndPaces : Prop :=
  ∀ (order : TickOrder) (k : Station) (s : State), s.power = .on → s.ctl.state ≠ .unconfigured →
    s.ctl.config.station = some k → (s.peer k).presence = .self → (s.settle.records.map (·.receiver)).Nodup →
    let roll : RollContent := {
      state := s.ctl.state, standing := s.standing, spare := BitVec.ofNat 32 (s.acct.credit - s.target),
      period := BitVec.ofNat 8 s.ctl.config.rollPeriod.value, generation := BitVec.ofNat 8 s.activeGeneration,
      canGive := s.spaceForGive }
    let starts := s.bal.caller = .idle ∧ s.ctl.state = .active ∧ s.standing.short = true ∧ s.bal.backoffWait ≤ 1 ∧
      s.spaceForEntry = true ∧ s.line.state = .up ∧ s.minTransfer ≤ s.target - s.acct.credit ∧
      ∃ (j : Station) (c : RollContent), (s.peer j).presence = .present ∧ (s.peer j).roll = some c ∧
        c.state = .active ∧ c.standing = .surplus ∧ c.canGive = true
    let queried (r : OutRecord) : Bool :=
      s.ctl.state != .parked && r.state == .stranded && (s.peer r.receiver).presence == .present
    let query (r : OutRecord) : TxEntry := .fresh (.query (BitVec.ofNat 8 r.receiver.val) r.serial)
    let need := BitVec.ofNat 32 (s.target - s.acct.credit)
    let call : TxEntry := .fresh (.call need)
    let asked (r : OutRecord) : Bool :=
      queried r && !(s.line.tx.any fun e => !e.inProgress && e.payload == (query r).payload)
    let shares (calls : List Payload) : List Payload :=
      let queries := (s.settle.records.filter asked).map fun r => (query r).payload
      match order with
      | .rollBalancerSettlement => .roll roll :: calls ++ queries
      | .rollSettlementBalancer => .roll roll :: queries ++ calls
      | .balancerRollSettlement => calls ++ .roll roll :: queries
      | .balancerSettlementRoll => calls ++ queries ++ [.roll roll]
      | .settlementRollBalancer => queries ++ .roll roll :: calls
      | .settlementBalancerRoll => queries ++ calls ++ [.roll roll]
    let placed (ps : List Payload) : State := ps.foldl (fun u p => u.place p) s
    ∃ t, exec (.rollTick order) s = .next t ∧
      t.line.rollTimer = .running (1000 * s.ctl.config.rollPeriod.value) ∧
      t.peer k = { presence := .self, silence := 0, roll := some roll } ∧
      (∀ j : Station, j ≠ k → t.peer j = s.peer j) ∧
      (starts → t.bal = { s.bal with backoffWait := 0, caller := .calling, offers := [], offerWindow := .running 250 }) ∧
      (¬ starts → t.bal = { s.bal with backoffWait := s.bal.backoffWait - 1 }) ∧
      (s.line.state = .up → s.line.tx = [] → s.settle.records.length ≤ 4 →
        t.line.queueDrops = s.line.queueDrops ∧
        (starts → t.line.tx = (s.settle.records.filter queried).map query ++ [call, .fresh (.roll roll)]) ∧
        (¬ starts → t.line.tx = (s.settle.records.filter queried).map query ++ [.fresh (.roll roll)])) ∧
      (∀ e ∈ t.line.tx, e ∈ s.line.tx ∨ e = .fresh (.roll roll) ∨ (starts ∧ e = call) ∨
        ∃ r ∈ s.settle.records, queried r = true ∧ e = query r) ∧
      (starts → t.line.tx = (placed (shares [.call need])).line.tx ∧
        t.line.queueDrops = (placed (shares [.call need])).line.queueDrops) ∧
      (¬ starts → t.line.tx = (placed (shares [])).line.tx ∧ t.line.queueDrops = (placed (shares [])).line.queueDrops) ∧
      (s.line.state = .alone → s.line.queueDrops ≤ 65535 →
        t.line.tx = (s.place (.roll roll)).line.tx ∧
        t.line.queueDrops = min ((s.place (.roll roll)).line.queueDrops + (s.settle.records.filter asked).length) 65535) ∧
      { t with
        line := { t.line with
          rollTimer := s.line.rollTimer, peers := s.line.peers, tx := s.line.tx, queueDrops := s.line.queueDrops },
        bal := s.bal } = s

/-- Every step keeps the transmit and receive queues, the attempt counts and the run count as the line rules give them
(R100, R103 to R106). That a held frame is none of the sixteen of the receive queue is the model's choice (log entry
44). -/
def Obligations.LineRulesAreKept : Prop :=
  ∀ s t : State, s.LineSound → step s = .next t → t.LineSound

/-! ### Balancer -/

/-- A wake taken when the start test passes, in ACTIVE alone: the caller enters CALLING with an empty offer list and a
running window, and a CALL with the need is placed; a wake taken when it fails changes only the count of wakes, which is
the model's (log entries 22 and 45). The end of a backoff wait changes nothing more, the roll tick having counted it (R123, R124,
R128; log entry 23). -/
def Obligations.WakeStartsACallOrNot : Prop :=
  ∀ s : State, exec .backoffWaitEnd s = .next s ∧
    (s.power = .on → s.ctl.state ≠ .unconfigured → 0 < s.bal.wakes →
      let u : State := { s with bal := { s.bal with wakes := s.bal.wakes - 1 } }
      let starts := s.bal.caller = .idle ∧ s.ctl.state = .active ∧ s.standing.short = true ∧
        s.bal.backoffWait = 0 ∧ s.spaceForEntry = true ∧ s.line.state = .up ∧ s.minTransfer ≤ s.target - s.acct.credit ∧
        ∃ (k : Station) (c : RollContent), (s.peer k).presence = .present ∧ (s.peer k).roll = some c ∧
          c.state = .active ∧ c.standing = .surplus ∧ c.canGive = true
      (starts → exec .balancerWake s = .next (({ u with
        bal := { u.bal with caller := .calling, offers := [], offerWindow := .running 250 } } : State).place
          (.call (BitVec.ofNat 32 (s.target - s.acct.credit))))) ∧
      (¬ starts → exec .balancerWake s = .next u))

/-- The offer window ends: with no offer the caller is IDLE with backoff; otherwise an offer of the largest amount, of
equal ones the lowest station, is chosen, and the need read again is taken from it, or the caller is IDLE without backoff
when it is below M. The take wait ends in IDLE with backoff. The offer list is empty afterwards. A window end that does not
find the caller CALLING, and a take wait's end that does not find it TAKING, change nothing (R126 to R129). -/
def Obligations.WindowPicksAndTakeWaitEnds : Prop :=
  ∀ s : State, s.power = .on → s.ctl.state ≠ .unconfigured →
    let need := s.target - s.acct.credit
    (s.bal.caller = .calling → s.bal.offers = [] → exec .offerWindow s = .next { s with bal := s.bal.gaveUp }) ∧
    (s.bal.caller = .calling → ∀ o ∈ s.bal.offers, (∀ q ∈ s.bal.offers, q.2 < o.2 ∨ (q.2 = o.2 ∧ o.1.val ≤ q.1.val)) →
      (need < s.minTransfer → exec .offerWindow s = .next { s with bal := s.bal.abandoned }) ∧
      (s.minTransfer ≤ need → exec .offerWindow s = .next (({ s with
        bal := { s.bal with caller := .taking o.1 need, offers := [], offerWindow := .stopped,
                            takeWait := .running 500 } } : State).place
          (.take (BitVec.ofNat 8 o.1.val) (BitVec.ofNat 32 need))))) ∧
    (∀ k asked, s.bal.caller = .taking k asked → exec .takeWait s = .next { s with bal := s.bal.gaveUp }) ∧
    (s.bal.caller ≠ .calling → exec .offerWindow s = .next s) ∧
    ((∀ k asked, s.bal.caller ≠ .taking k asked) → exec .takeWait s = .next s)

/-- The offerer takes a CALL: when every condition of R131 holds it places an OFFER of the smaller of need and CREDIT − T to
the caller, otherwise nothing; it keeps no record of it. -/
def Obligations.CallIsOfferedTheSpare : Prop :=
  ∀ (k : Station) (need : BitVec 32) (s : State), s.power = .on → s.ctl.state ≠ .unconfigured →
    s.line.toOfferer = some { sender := k, payload := .call need } →
    exec .callFrame s = .next
      (if s.ctl.state = .active ∧ s.standing = .surplus ∧ s.spaceForGive = true ∧
          (∀ r ∈ s.settle.records, r.receiver ≠ k) ∧ s.settle.records.length < 4 ∧ s.line.state = .up ∧
          s.minTransfer ≤ min need.toNat (s.acct.credit - s.target) then
        (s.frameTakenBy .offerer).place
          (.offer (BitVec.ofNat 8 k.val) (BitVec.ofNat 32 (min need.toNat (s.acct.credit - s.target))))
      else s.frameTakenBy .offerer)

/-- The offerer takes a TAKE: when every test of R132 passes, g = min(a, CREDIT − T) moves from CREDIT to GIVEN, a credit
record opens under the next serial with a GIVE_CREDIT entry, and its GIVE is placed; otherwise NONE is placed and nothing
changes but LIMIT, which the ascending-total test sets (R9, R13, R132, R141, R142). -/
def Obligations.TakeIsGivenOrAnsweredNone : Prop :=
  ∀ (k : Station) (dest : Byte) (asked : BitVec 32) (s : State), s.power = .on → s.ctl.state ≠ .unconfigured →
    s.line.toOfferer = some { sender := k, payload := .take dest asked } →
    let g := min asked.toNat (s.acct.credit - s.target)
    let credit := s.acct.credit - g
    let serial := s.settle.giveSerial + 1
    let u := s.frameTakenBy .offerer
    if s.ctl.state = .active ∧ k ∉ s.settle.records.map (·.receiver) ∧ s.settle.records.length < 4 ∧
        s.minTransfer ≤ g ∧ s.spaceForGive = true then
      if s.acct.loaded + s.acct.taken + s.acct.reclaimed + s.openOut + g ≤ 2 ^ 48 - 1 then
        exec .takeFrame s = .next (({ u with
          acct := { s.acct with credit := credit, given := s.acct.given + g },
          settle := { s.settle with
            giveSerial := serial,
            records := s.settle.records ++ [{ receiver := k, serial := serial, body := .credit g, state := .unsettled,
                                              sends := 1, wait := .stopped }] },
          journal := s.journalWith .giveCredit (some k) (some serial.toNat) none none g (some credit),
          bal := s.balAt credit, host := { s.host with alerts := s.nearFull (s.alertsAt credit) } } : State).place
          (.give (BitVec.ofNat 8 k.val) serial (.credit (BitVec.ofNat 32 g))))
      else
        exec .takeFrame s = .next (({ u with acct := { u.acct with limit := true } } : State).place
          (.noneLeft (BitVec.ofNat 8 k.val)))
    else exec .takeFrame s = .next (u.place (.noneLeft (BitVec.ofNat 8 k.val)))

/-- An OFFER taken while CALLING is collected under its sender, replacing its earlier one, and is ignored otherwise; a NONE
from the chosen station ends the take with backoff and any other changes nothing (R125, R127, R128). -/
def Obligations.OfferAndNoneReachTheCaller : Prop :=
  ∀ (k : Station) (dest : Byte) (s : State), s.power = .on → s.ctl.state ≠ .unconfigured →
    let u := s.frameTakenBy .balancer
    (∀ amount, s.line.toBalancer = some { sender := k, payload := .offer dest amount } →
      (s.bal.caller = .calling → exec .offerFrame s = .next { u with
        bal := { s.bal with offers := (s.bal.offers.filter fun o => o.1 != k) ++ [(k, amount.toNat)] } }) ∧
      (s.bal.caller ≠ .calling → exec .offerFrame s = .next u)) ∧
    (s.line.toBalancer = some { sender := k, payload := .noneLeft dest } →
      (∀ asked, s.bal.caller = .taking k asked → exec .noneFrame s = .next { u with bal := s.bal.gaveUp }) ∧
      ((∀ asked, s.bal.caller ≠ .taking k asked) → exec .noneFrame s = .next u))

/-! ### Settlement unit -/

/-- The answer wait of an UNSETTLED record runs out: after fewer than four sends an identical GIVE is placed and sends made
rises; after the fourth the record is STRANDED, its wait stops, STRANDED latches, its waiting GIVE leaves the queue, and a
PARKING station whose work is then closed enters PARKED (R143, R157, R164). -/
def Obligations.AnswerWaitResendsOrStrands : Prop :=
  ∀ (a b : List OutRecord) (r : OutRecord) (s : State), s.power = .on → s.ctl.state ≠ .unconfigured →
    s.settle.records = a ++ r :: b → (s.settle.records.map (·.receiver)).Nodup → r.state = .unsettled →
    r.wait ≠ .stopped →
    (r.sends < 4 → exec (.answerWait r.receiver) s = .next (({ s with settle := { s.settle with
      records := a ++ { r with sends := r.sends + 1, wait := .stopped } :: b } } : State).place r.givePayload)) ∧
    (4 ≤ r.sends →
      let u : State := { s with
        settle := { s.settle with records := a ++ { r with state := .stranded, wait := .stopped } :: b },
        host := { s.host with alerts := { s.host.alerts with stranded := true } },
        line := { s.line with
          tx := (s.line.tx.filter fun e => e.inProgress || !e.payload.isGiveOf r.receiver r.serial).map fun e =>
            if e.payload.isGiveOf r.receiver r.serial then { e with cancelled := true } else e } }
      exec (.answerWait r.receiver) s = .next { u with ctl := u.notice.ctl })

/-- A GIVE taken by the settlement unit, by the receipt-table entry of its giver (R147 to R152): an older serial changes
nothing; an equal one repeats GOT or VOID; a newer one is deferred while PARKED or without journal space; a newer credit
within the caps raises CREDIT and TAKEN with its entry and GOT, past a cap sets LIMIT and is voided, and an amount of 0 is
voided; a newer stock GIVE that fits raises ON_HAND and IN with its entry and GOT, past a bound sets LIMIT and is voided,
and is voided for a count of 0, an absent index or another face. The caller hears the outcome of a credit GIVE (R127); that
it hears it before it takes a wake of the same receipt is the model's choice (log entry 39). -/
def Obligations.IncomingGiveIsJudgedInOrder : Prop :=
  ∀ (g : Station) (dest : Byte) (serial : BitVec 16) (body : GiveBody) (s : State), s.power = .on →
    s.ctl.state ≠ .unconfigured → s.line.toSettlement = some { sender := g, payload := .give dest serial body } →
    let u := s.frameTakenBy .settlement
    let answer (kind : ReplyKind) : Payload := .reply kind (BitVec.ofNat 8 g.val) serial
    let newer := ∀ e, s.receipt g = some e → 1 ≤ (serial - e.serial).toNat ∧ (serial - e.serial).toNat ≤ 32767
    let entered (v : Verdict) : SettlementUnit :=
      { s.settle with receipts := s.settle.receipts.set g.slot (some { serial := serial, verdict := v }) }
    let voided (limit : Bool) (bal : Balancer) : Prop :=
      exec .giveFrame s = .next { ({ u with
        acct := { s.acct with limit := s.acct.limit || limit }, settle := entered .voided } : State).place (answer .void) with
          bal := bal }
    (∀ e, s.receipt g = some e → 32768 ≤ (serial - e.serial).toNat → exec .giveFrame s = .next u) ∧
    (∀ e, s.receipt g = some e → serial = e.serial →
      exec .giveFrame s = .next (u.place (answer (if e.verdict = .received then .got else .void)))) ∧
    (newer → s.ctl.state = .parked ∨ s.spaceForEntry = false →
      exec .giveFrame s = .next { u.place (answer .defer) with
        bal := match body with
          | .credit _ => s.bal.afterGive g false
          | .stock _ _ _ => s.bal }) ∧
    (newer → s.ctl.state ≠ .parked → s.spaceForEntry = true →
      (∀ amount, body = .credit amount →
        let n := amount.toNat
        let credit := s.acct.credit + n
        if n = 0 then voided false (s.bal.afterGive g false)
        else if 9999999 < credit + s.acct.held + s.openOut ∨
            2 ^ 48 - 1 < s.acct.loaded + s.acct.taken + s.acct.reclaimed + s.openOut + n then
          voided true (s.bal.afterGive g false)
        else exec .giveFrame s = .next { ({ u with
          acct := { s.acct with credit := credit, taken := s.acct.taken + n },
          settle := entered .received,
          journal := s.journalWith .receiveCredit (some g) (some serial.toNat) none none n (some credit),
          host := { s.host with alerts := s.nearFull (s.alertsAt credit) } } : State).place (answer .got) with
            bal := (s.balAt credit).afterGive g true }) ∧
      (∀ index count face, body = .stock index count face →
        let n := count.toNat
        (n = 0 ∨ s.ctl.config.denomCount.value ≤ index.toNat → voided false s.bal) ∧
        (∀ d : Fin 16, d.val = index.toNat → d.val < s.ctl.config.denomCount.value → 1 ≤ n →
          let x := s.stock[d]
          if s.face d ≠ face.toNat then voided false s.bal
          else if 65535 < x.onHand + s.openStock d + n ∨ 4294967295 < s.stockTotal d + n then voided true s.bal
          else exec .giveFrame s = .next (({ u with
            stock := s.stock.set d { x with onHand := x.onHand + n, inward := x.inward + n },
            settle := entered .received,
            journal := s.journalWith .receiveStock (some g) (some serial.toNat) (some d) none n (some (x.onHand + n)),
            host := { s.host with alerts := s.nearFull s.host.alerts } } : State).place (answer .got)))))

/-- An answer that matches an open record closes it, but while PARKED is ignored: GOT and HAVE settle, VOID and NOHAVE
restore; the record leaves the list in its place, its closing entry is appended and its GIVE is withdrawn. Credit settles
into SETTLED_OUT and restores into RECLAIMED and CREDIT; stamps settle into nothing and restore into RETURNED and ON_HAND.
An answer that matches no record changes nothing (R11, R13, R81, R86, R144). -/
def Obligations.AnswersSettleOrRestore : Prop :=
  ∀ (k : Station) (serial : BitVec 16) (dest : Byte) (kind : ReplyKind) (c : Instr) (s : State),
    s.power = .on → s.ctl.state ≠ .unconfigured →
    s.line.toSettlement = some { sender := k, payload := .reply kind dest serial } →
    (kind, c) ∈ [(ReplyKind.got, Instr.gotFrame), (.haveIt, .haveFrame), (.void, .voidFrame), (.nohave, .nohaveFrame)] →
    let u := s.frameTakenBy .settlement
    (s.ctl.state = .parked ∨ (∀ r ∈ s.settle.records, r.receiver = k → r.serial ≠ serial) → exec c s = .next u) ∧
    (∀ (a b : List OutRecord) (r : OutRecord), s.ctl.state ≠ .parked → s.settle.records = a ++ r :: b →
      (s.settle.records.map (·.receiver)).Nodup → r.receiver = k → r.serial = serial →
      let v : State := { u.withdrawGive k serial with settle := { s.settle with records := a ++ b } }
      let closed (w : State) : Prop := exec c s = .next { w with ctl := w.notice.ctl }
      match r.body with
      | .credit g =>
        if kind = .got ∨ kind = .haveIt then
          closed { v with
            acct := { s.acct with settledOut := s.acct.settledOut + g },
            journal := s.journalWith .settle (some k) (some serial.toNat) none none g (some s.acct.credit),
            host := { s.host with alerts := s.nearFull s.host.alerts } }
        else
          closed { v with
            acct := { s.acct with reclaimed := s.acct.reclaimed + g, credit := s.acct.credit + g },
            journal := s.journalWith .restore (some k) (some serial.toNat) none none g (some (s.acct.credit + g)),
            bal := s.balAt (s.acct.credit + g),
            host := { s.host with alerts := s.nearFull (s.alertsAt (s.acct.credit + g)) } }
      | .stock d n _ =>
        if kind = .got ∨ kind = .haveIt then
          closed { v with
            journal := s.journalWith .settle (some k) (some serial.toNat) (some d) none n none,
            host := { s.host with alerts := s.nearFull s.host.alerts } }
        else
          closed { v with
            stock := s.stock.set d { s.stock[d] with
              onHand := s.stock[d].onHand + n, returned := s.stock[d].returned + n },
            journal := s.journalWith .restore (some k) (some serial.toNat) (some d) none n
              (some (s.stock[d].onHand + n)),
            host := { s.host with alerts := s.nearFull s.host.alerts } })

/-- A DEFER strands the UNSETTLED record it matches and changes nothing of a STRANDED one, and one that matches no open
record changes nothing. A QUERY is answered by the entry of its giver: HAVE or NOHAVE for an equal serial, NOHAVE after
voiding a newer one, nothing for an older one (R143, R144, R153, R157). -/
def Obligations.DeferStrandsAndQueryIsAnswered : Prop :=
  (∀ (a b : List OutRecord) (r : OutRecord) (dest : Byte) (s : State), s.power = .on → s.ctl.state ≠ .unconfigured →
    s.settle.records = a ++ r :: b → (s.settle.records.map (·.receiver)).Nodup →
    s.line.toSettlement = some { sender := r.receiver, payload := .reply .defer dest r.serial } →
    (r.state = .stranded → exec .deferFrame s = .next (s.frameTakenBy .settlement)) ∧
    (r.state = .unsettled →
      let u : State := { (s.frameTakenBy .settlement).withdrawGive r.receiver r.serial with
        settle := { s.settle with records := a ++ { r with state := .stranded, wait := .stopped } :: b },
        host := { s.host with alerts := { s.host.alerts with stranded := true } } }
      exec .deferFrame s = .next { u with ctl := u.notice.ctl })) ∧
  (∀ (k : Station) (dest : Byte) (serial : BitVec 16) (s : State), s.power = .on → s.ctl.state ≠ .unconfigured →
    s.line.toSettlement = some { sender := k, payload := .reply .defer dest serial } →
    (∀ r ∈ s.settle.records, r.receiver = k → r.serial ≠ serial) →
    exec .deferFrame s = .next (s.frameTakenBy .settlement)) ∧
  (∀ (g : Station) (dest : Byte) (serial : BitVec 16) (s : State), s.power = .on → s.ctl.state ≠ .unconfigured →
    s.line.toSettlement = some { sender := g, payload := .query dest serial } →
    let u := s.frameTakenBy .settlement
    let answer (kind : ReplyKind) : Payload := .reply kind (BitVec.ofNat 8 g.val) serial
    (∀ e, s.receipt g = some e → 32768 ≤ (serial - e.serial).toNat → exec .queryFrame s = .next u) ∧
    (∀ e, s.receipt g = some e → serial = e.serial →
      exec .queryFrame s = .next (u.place (answer (if e.verdict = .received then .haveIt else .nohave)))) ∧
    ((∀ e, s.receipt g = some e → 1 ≤ (serial - e.serial).toNat ∧ (serial - e.serial).toNat ≤ 32767) →
      exec .queryFrame s = .next (({ u with settle := { s.settle with
        receipts := s.settle.receipts.set g.slot (some { serial := serial, verdict := .voided }) } } : State).place
          (answer .nohave))))

/-! ### Station control, timebase and resets -/

/-- PARK in ACTIVE returns the caller to IDLE, keeps its backoff, and leaves the station PARKING while work is open, PARKED
with its image when none is; in PARKING and PARKED it changes nothing. RESUME returns a PARKING or PARKED station to ACTIVE
and discards the image; in ACTIVE it changes nothing. A notice of closed work brings a PARKING station without any to PARKED
and forms the image of that moment, station number, day, last serial and active generation in its header, and changes nothing
else (R134, R163, R164, R165, R167, R168). That a wake released earlier stays counted over PARK and RESUME, and that the entry
to PARKED is one step with the event it follows, is the model's choice (log entries 45 and 46). -/
def Obligations.ParkAndResumeActByState : Prop :=
  (∀ s : State, s.ready → s.ctl.state ≠ .unconfigured →
    (∃ t, exec (.park true) s = .next t ∧
      t.host = s.host.took .park (some true) (.result .ok ([t.ctl.state.code] ++ beBytes 1 s.resv.table.length ++
        beBytes 1 (s.settle.records.filter (·.state == .unsettled)).length)) ∧
      (if s.ctl.state = .active then
        t.bal = s.bal.abandoned ∧ t.ctl.config = s.ctl.config ∧
        (if s.resv.table = [] ∧ (∀ r ∈ s.settle.records, r.state = .stranded) then
          t.ctl.state = .parked ∧ s.entryImage s.activeGeneration t.ctl.image
        else t.ctl.state = .parking ∧ t.ctl.image = s.ctl.image)
      else t.bal = s.bal ∧ t.ctl = s.ctl) ∧
      { t with ctl := s.ctl, bal := s.bal, host := s.host } = s) ∧
    exec (.resume true) s = .next { s with
      ctl := if s.ctl.state = .active then s.ctl else { s.ctl with state := .active, image := [] },
      host := s.host.took .resume (some true) (.result .ok [s.ctl.state.code, 1]) }) ∧
  (∀ s : State,
    if s.ctl.state = .parking ∧ s.resv.table = [] ∧ (∀ r ∈ s.settle.records, r.state = .stranded) then
      ∃ image, s.entryImage s.activeGeneration image ∧
        s.notice = { s with ctl := { s.ctl with state := .parked, image := image } }
    else s.notice = s) ∧
  [StationState.unconfigured, .active, .parking, .parked].map StationState.code = [0, 1, 2, 3]

/-- SET_DAY while TIME_LOST is set, to a day not before the last recorded one: it sets the day, the seconds and the last
recorded day, clears TIME_LOST and adds the skipped days to the inspection count up to N + G. A day advance on main power
restarts the seconds, raises and records the day up to 65,535 and adds one day to the count; while TIME_LOST is set none is
taken and nothing changes. Each latches INSPECTION_DUE
when the count comes to N, and switches in a READY bank whose day has come; nothing else changes (R35, R172,
R174, R175, R176). That a count of N is DUE whichever order a voucher and a day advance have, N = 1 included, is the model's choice (log
entry 35). -/
def Obligations.DaysAreSetAndAdvance : Prop :=
  ∀ s : State, s.power = .on → s.ctl.state ≠ .unconfigured →
    let n := s.ctl.config.inspectDays.value
    let lapse := n + s.ctl.config.graceDays.value
    let alerts (day count : Nat) : AlertStore := { s.host.alerts with
      inspectionDue := s.host.alerts.inspectionDue || (s.time.inspection < n && n ≤ count),
      tariffSwitched := s.host.alerts.tariffSwitched || s.tariff.dueOn day }
    let tariff (day : Nat) : TariffStore := if s.tariff.dueOn day then s.tariff.switched else s.tariff
    (∀ (day : BitVec 16) (seconds : BitVec 32), s.host.rdy = true → seconds.toNat ≤ 86399 → s.time.timeLost = true →
      s.time.lastRecorded ≤ day.toNat →
      let count := min (s.time.inspection + (day.toNat - s.time.lastRecorded)) lapse
      exec (.setDay true day seconds) s = .next { s with
        time := { s.time with
          day := day.toNat, lastRecorded := day.toNat, seconds := seconds.toNat, subMs := 0, timeLost := false,
          inspection := count },
        tariff := tariff day.toNat,
        host := HostPort.took { s.host with alerts := alerts day.toNat count } (.setDay day seconds) (some true)
          (.setDayReport day.toNat count (if count < n then .current else if count < lapse then .due else .lapsed)) }) ∧
    (s.time.timeLost = false → s.time.valid = true →
      let count := min (s.time.inspection + 1) lapse
      let day := min (s.time.day + 1) 65535
      exec .dayAdvance s = .next { s with
        time := { s.time with seconds := 0, subMs := 0, day := day, lastRecorded := day, inspection := count },
        tariff := tariff day,
        host := { s.host with alerts := alerts day count } }) ∧
    (s.time.timeLost = true → exec .dayAdvance s = .next s)

/-- While UNCONFIGURED, CONFIG_SET stores the value of every item: MIN_TRANSFER, ROLL_PERIOD, WINDOW, INSPECT_DAYS and
GRACE_DAYS clamped to their ranges, the eight bytes of VOUCHER_KEY as they are, and the others as given within their ranges;
outside its range a refused item keeps what it held and is answered CONFIG_INVALID with it, free bytes when it held no value
(log entry 7). CONFIG_COMMIT names the first item that R188 finds wrong, and with every item right makes the station ACTIVE
with every register, counter, entry, record, reservation and peer at its value after commit, LOW_CREDIT latched and the
balancer woken (R13, R22, R121, R137, R159, R162, R171, R187, R188). That the first roll tick is then due and not yet made is
DEDUCED (log entry 15); the line's second begins at 0 ms, the model's choice (log entry 42); the set flag reads 1 or 0 (log entry 36). -/
def Obligations.ConfigurationIsSetAndCommitted : Prop :=
  ∀ s : State, s.ready → s.ctl.state = .unconfigured →
    let c := s.ctl.config
    let sets (item index : Byte) (v : BitVec 64) (stored : Nat) (d : ConfigStore) : Prop :=
      exec (.configSet true item index v) s = .next { s with
        ctl := { s.ctl with config := d },
        host := s.host.took (.configSet item index v) (some true) (.result .ok ([item, index, 1] ++ beBytes 8 stored)) }
    let within (lo hi n : Nat) : Nat := max lo (min hi n)
    let set (n : Nat) : Setting := { value := n, isSet := true }
    (∀ v : BitVec 64,
      let n := v.toNat
      (∀ k : Station, k.val = n → sets 0 0 v n { c with station := some k }) ∧
      (n ≤ 65535 → sets 1 0 v n { c with branch := set n }) ∧
      sets 2 0 v n { c with key := v, keySet := true } ∧
      (n ≤ 9999999 → sets 3 0 v n { c with low := set n } ∧ sets 4 0 v n { c with target := set n } ∧
        sets 5 0 v n { c with high := set n }) ∧
      sets 6 0 v (within 100 100000 n) { c with minTransfer := set (within 100 100000 n) } ∧
      sets 7 0 v (within 1 60 n) { c with rollPeriod := set (within 1 60 n) } ∧
      (∀ m, [ConfirmMode.immediate, .window, .extended][n]? = some m →
        sets 8 0 v n { c with confirmMode := m, confirmModeSet := true }) ∧
      sets 9 0 v (within 2 30 n) { c with window := set (within 2 30 n) } ∧
      sets 10 0 v (within 1 120 n) { c with inspectDays := set (within 1 120 n) } ∧
      sets 11 0 v (within 0 14 n) { c with graceDays := set (within 0 14 n) } ∧
      (n ≤ 65535 → sets 12 0 v n { c with day := some n }) ∧
      (n ≤ 16 → sets 13 0 v n { c with denomCount := set n }) ∧
      (∀ i : Fin 16, 1 ≤ n → n ≤ 65535 →
        sets 14 (BitVec.ofNat 8 i.val) v n { c with faces := c.faces.set i (some n) })) ∧
    (∀ (p : Nat) (isSet : Bool) (value : Option Nat) (v : BitVec 64), c.listed[p]? = some (isSet, value) →
      outsideRange (itemCode p) v.toNat = true →
      let item := BitVec.ofNat 8 (itemCode p)
      let index := BitVec.ofNat 8 (itemIndex p)
      ∃ held : List Byte, held.length = 8 ∧ (∀ n, value = some n → held = beBytes 8 n) ∧
        exec (.configSet true item index v) s = .next { s with
          freeDraws := s.freeDraws + 1,
          host := s.host.took (.configSet item index v) (some true)
            (.result .configInvalid ([item, index, if isSet then 1 else 0] ++ held)) }) ∧
    (∀ item, (if s.ctl.config.station = none then some (0 : Byte) else if s.ctl.config.day = none then some 12
        else if s.ctl.config.target.value ≤ s.ctl.config.low.value then some 3
        else if s.ctl.config.high.value ≤ s.ctl.config.target.value then some 5
        else if ∃ i : Fin 16, i.val < s.ctl.config.denomCount.value ∧ s.ctl.config.faces[i] = none then some 14
        else none) = some item →
      exec (.configCommit true) s = .next { s with
        host := s.host.took .configCommit (some true) (.result .configInvalid [item]) }) ∧
    (∀ (k : Station) (day : Nat), s.ctl.config.station = some k → s.ctl.config.day = some day →
      s.ctl.config.low.value < s.ctl.config.target.value → s.ctl.config.target.value < s.ctl.config.high.value →
      (∀ i : Fin 16, i.val < s.ctl.config.denomCount.value → s.ctl.config.faces[i] ≠ none) →
      ∃ t, exec (.configCommit true) s = .next t ∧
        t.ctl.state = .active ∧ t.ctl.image = [] ∧ t.acct = Account.zero ∧ t.tariff = TariffStore.initial ∧
        t.resv = { ReservationUnit.initial with elapsedMs := s.resv.elapsedMs } ∧
        (∀ d : Fin 16, t.stock[d] = Denom.zero) ∧ t.journal = Journal.empty ∧ t.settle = SettlementUnit.initial ∧
        t.bal = { Balancer.initial with wakes := 1 } ∧
        t.line = { LineController.inactive with rollTimer := .running 0, peers := t.line.peers } ∧
        (∀ j : Station, t.peer j = { presence := if j = k then .self else .unheard, silence := 0, roll := none }) ∧
        t.time = { seconds := 0, subMs := 0, day := day, valid := true, timeLost := false, lastRecorded := day,
                   inspection := 0 } ∧
        t.ctl.config = { s.ctl.config with faces := t.ctl.config.faces } ∧
        (∀ i : Fin 16, t.ctl.config.faces[i] =
          if i.val < s.ctl.config.denomCount.value then s.ctl.config.faces[i] else none) ∧
        t.host = HostPort.took { s.host with alerts := { s.host.alerts with lowCredit := true } } .configCommit (some true)
          (.result .ok [BitVec.ofNat 8 k.val, 1]) ∧
        t.power = .on ∧ t.pbusy = s.pbusy ∧ t.pending = s.pending)

/-- RESETN with main power on, held low for any time, and every power-on reset, of a committed station: HELD is charged to USED, the table is
empty with next id 1, no record is UNSETTLED, and every other register, the journal, the drawer, the outbound amounts, the
receipts and the configuration are kept; the queues, the balancer and the peer table are as after commit; a lost mark sets
TIME_LOST and the last recorded day at a power-on reset, and otherwise the days counted since, those of the hold among them,
join the inspection count; a READY bank whose day has come switches in; PARKING becomes PARKED with its image; RDY is high with both buffers empty and
the alerts of R186 pending (R15, R23, R37, R67, R99, R121, R137, R160, R170, R173, R177, R186). That the queue is empty
and the first roll tick due and not yet made is DEDUCED (log entry 15); that the sample of SUPV is released, that the image's
generation is of before or after a switch, and that a hold is one step with a free length in milliseconds, are the model's
choices (log entries 4, 9 and 25), as is that the line's second begins at 0 ms (log entry 42). -/
def Obligations.ResetsKeepValueAndRebuildTheRest : Prop :=
  ∀ (c : Instr) (s : State), (c = .resetn ∧ s.power = .on) ∨ c = .powerOnReset → s.ctl.state ≠ .unconfigured →
    s.acct.held = (s.resv.table.map Reservation.grantedValue).sum → (s.resv.table.map (·.id)).Nodup →
    let passed := 1000 * s.time.seconds + s.time.subMs + Sys2Proof.Config.resetHeldMs s.freeDraws
    let counted : Timebase :=
      if c = .powerOnReset ∨ s.time.timeLost = true ∨ s.time.valid = false then s.time
      else { s.time with
        day := min (s.time.day + passed / 86400000) 65535, seconds := passed / 1000 % 86400, subMs := passed % 1000 }
    ∃ t, exec c s = .next t ∧ t.power = .on ∧ t.incomplete = false ∧ t.pbusy = s.pbusy ∧ t.pending = s.pending ∧
      t.acct = { s.acct with held := 0, used := s.acct.used + s.acct.held } ∧
      t.resv.table = [] ∧ t.resv.nextId = 1 ∧ t.resv.elapsedMs = 0 ∧ t.stock = s.stock ∧ t.journal = s.journal ∧
      ((∀ d : Fin 8, s.resv.totals[d].count ≤ 4294967295) →
        s.resv.chargedAs t.resv (s.resv.table.flatMap Reservation.grantedItems)) ∧
      t.settle = { s.settle with
        records := s.settle.records.map fun r => { r with state := .stranded, wait := .stopped } } ∧
      t.bal = Balancer.initial ∧
      t.line = { LineController.inactive with rollTimer := .running 0, peers := t.line.peers } ∧
      (∀ j : Station, t.peer j =
        { presence := if s.ctl.config.station = some j then .self else .unheard, silence := 0, roll := none }) ∧
      (c = .powerOnReset → s.time.valid = false →
        t.time = { s.time with
          day := s.time.lastRecorded, seconds := 0, subMs := 0, timeLost := true, valid := true }) ∧
      (c = .resetn ∨ s.time.valid = true →
        t.time = if s.time.timeLost = false ∧ s.time.lastRecorded < counted.day then
            { counted with
              lastRecorded := counted.day,
              inspection := min (s.time.inspection + (counted.day - s.time.lastRecorded))
                (s.ctl.config.inspectDays.value + s.ctl.config.graceDays.value) }
          else counted) ∧
      t.tariff = { (if t.time.timeLost = false ∧ s.tariff.dueOn t.time.day = true then s.tariff.switched else s.tariff) with
        assembly := none } ∧
      t.ctl.config = s.ctl.config ∧ t.ctl.state = (if s.ctl.state = .parking then .parked else s.ctl.state) ∧
      (if s.ctl.state = .parking then
        ∃ g, (g = s.activeGeneration ∨ g = t.activeGeneration) ∧ t.entryImage g t.ctl.image
      else t.ctl.image = s.ctl.image) ∧
      t.host = { HostPort.initial with alerts := t.host.alerts } ∧
      t.host.alerts.lowCredit = s.standing.short ∧ t.host.alerts.stranded = !s.settle.records.isEmpty ∧
      t.host.alerts.reservationExpired = !s.resv.table.isEmpty ∧ t.host.alerts.lineAlone = false ∧
      t.host.alerts.journalNearFull = false ∧ t.host.alerts.stationClash = false ∧
      t.host.alerts.peerTariffNewer = false ∧
      t.host.alerts.tariffSwitched = (!t.time.timeLost && s.tariff.dueOn t.time.day) ∧
      t.host.alerts.inspectionDue = (decide (s.time.inspection < s.ctl.config.inspectDays.value) &&
        decide (s.ctl.config.inspectDays.value ≤ t.time.inspection))

/-- The loss of main power keeps the non-volatile store and the backup domain and only takes RDY low with whatever request
was being handled; with main power off, the loss of the backup supply loses the mark and the day's content and nothing else,
the day goes on in the backup domain alone, and any other command but PBUSY's and the power-on reset changes nothing. While
UNCONFIGURED no event of a block that commit activates changes anything, nor does a day advance, and a reset leaves every
block at its values before commit with no alert pending (R15, R162, R171, R186). What the part does without power beyond R15
and R171, that power-on reset holds the timebase of an UNCONFIGURED station, that the line's second is 0 ms after a reset,
and that a reset releases the sample of SUPV, is the model's choice (log entries 4, 8, 11, 17, 24 and 42). -/
def Obligations.SuppliesAndCommitGateTheBlocks : Prop :=
  ∀ s : State,
    (∀ midRecord, s.power = .on → exec (.powerLoss midRecord) s = .next { s with
      power := .off, incomplete := midRecord, host := { s.host with rdy := false, answer := none } }) ∧
    (s.power = .off → ∃ t, exec .backupLoss s = .next t ∧ t.time.valid = false ∧
      t.time.lastRecorded = s.time.lastRecorded ∧ t.time.inspection = s.time.inspection ∧
      { t with time := s.time, freeDraws := s.freeDraws } = s) ∧
    (s.power = .off → s.ctl.state ≠ .unconfigured → s.time.timeLost = false → s.time.valid = true →
      exec .dayAdvance s = .next { s with
        time := { s.time with seconds := 0, subMs := 0, day := min (s.time.day + 1) 65535 } }) ∧
    (s.power = .off → ∀ c : Instr, actsUnpowered c = false → exec c s = .next s) ∧
    (s.ctl.state = .unconfigured → ∀ c : Instr, blockEvent c = true ∨ c = .dayAdvance → exec c s = .next s) ∧
    (s.ctl.state = .unconfigured → s.resv.table = [] → s.settle.records = [] → s.tariff = TariffStore.initial →
      (s.time.valid = true → s.time = Timebase.held) →
      (s.power = .on → s.time.valid = true → exec .resetn s = .next { s with
        host := HostPort.initial, resv := { s.resv with nextId := 1, elapsedMs := 0 },
        line := LineController.inactive, bal := Balancer.initial, incomplete := false }) ∧
      exec .powerOnReset s = .next { s with
        host := HostPort.initial, resv := { s.resv with nextId := 1, elapsedMs := 0 },
        line := LineController.inactive, bal := Balancer.initial, time := Timebase.held, power := .on,
        incomplete := false })

/-- Every step keeps the park sound: a PARKING station has open work, a PARKED one has none and holds an image that agrees
with its station number, last serial, registers, drawer and outbound list and with its own check, and no other state holds
an image (R164, R167, R168, R170). -/
def Obligations.ParkImageStaysTrue : Prop :=
  ∀ s t : State, s.ParkSound → step s = .next t → t.ParkSound

/-- The state after reset meets every invariant. -/
def Obligations.ResetMeetsTheInvariants : Prop :=
  State.reset.CreditBalances ∧ State.reset.StockBalances ∧ State.reset.JournalSound ∧ State.reset.LineSound ∧
    State.reset.ParkSound

end Statements
end

