-- ==== Sys2Proof/Laws/State.lean ====
section
/-! SUPPORT. What each block update of Machine/Flags.lean does to each field of State: the field it names is changed, the
others are kept. -/

namespace Sys2Proof.Machine

variable (s : State)

/-! ### State.onHost -/

@[simp] theorem State.onHost_host (f : HostPort → HostPort) : (s.onHost f).host = f s.host := rfl
@[simp] theorem State.onHost_acct (f : HostPort → HostPort) : (s.onHost f).acct = s.acct := rfl
@[simp] theorem State.onHost_tariff (f : HostPort → HostPort) : (s.onHost f).tariff = s.tariff := rfl
@[simp] theorem State.onHost_resv (f : HostPort → HostPort) : (s.onHost f).resv = s.resv := rfl
@[simp] theorem State.onHost_stock (f : HostPort → HostPort) : (s.onHost f).stock = s.stock := rfl
@[simp] theorem State.onHost_journal (f : HostPort → HostPort) : (s.onHost f).journal = s.journal := rfl
@[simp] theorem State.onHost_line (f : HostPort → HostPort) : (s.onHost f).line = s.line := rfl
@[simp] theorem State.onHost_bal (f : HostPort → HostPort) : (s.onHost f).bal = s.bal := rfl
@[simp] theorem State.onHost_settle (f : HostPort → HostPort) : (s.onHost f).settle = s.settle := rfl
@[simp] theorem State.onHost_time (f : HostPort → HostPort) : (s.onHost f).time = s.time := rfl
@[simp] theorem State.onHost_ctl (f : HostPort → HostPort) : (s.onHost f).ctl = s.ctl := rfl
@[simp] theorem State.onHost_pbusy (f : HostPort → HostPort) : (s.onHost f).pbusy = s.pbusy := rfl
@[simp] theorem State.onHost_power (f : HostPort → HostPort) : (s.onHost f).power = s.power := rfl
@[simp] theorem State.onHost_incomplete (f : HostPort → HostPort) : (s.onHost f).incomplete = s.incomplete := rfl
@[simp] theorem State.onHost_freeDraws (f : HostPort → HostPort) : (s.onHost f).freeDraws = s.freeDraws := rfl
@[simp] theorem State.onHost_pending (f : HostPort → HostPort) : (s.onHost f).pending = s.pending := rfl

/-! ### State.onAcct -/

@[simp] theorem State.onAcct_host (f : Account → Account) : (s.onAcct f).host = s.host := rfl
@[simp] theorem State.onAcct_acct (f : Account → Account) : (s.onAcct f).acct = f s.acct := rfl
@[simp] theorem State.onAcct_tariff (f : Account → Account) : (s.onAcct f).tariff = s.tariff := rfl
@[simp] theorem State.onAcct_resv (f : Account → Account) : (s.onAcct f).resv = s.resv := rfl
@[simp] theorem State.onAcct_stock (f : Account → Account) : (s.onAcct f).stock = s.stock := rfl
@[simp] theorem State.onAcct_journal (f : Account → Account) : (s.onAcct f).journal = s.journal := rfl
@[simp] theorem State.onAcct_line (f : Account → Account) : (s.onAcct f).line = s.line := rfl
@[simp] theorem State.onAcct_bal (f : Account → Account) : (s.onAcct f).bal = s.bal := rfl
@[simp] theorem State.onAcct_settle (f : Account → Account) : (s.onAcct f).settle = s.settle := rfl
@[simp] theorem State.onAcct_time (f : Account → Account) : (s.onAcct f).time = s.time := rfl
@[simp] theorem State.onAcct_ctl (f : Account → Account) : (s.onAcct f).ctl = s.ctl := rfl
@[simp] theorem State.onAcct_pbusy (f : Account → Account) : (s.onAcct f).pbusy = s.pbusy := rfl
@[simp] theorem State.onAcct_power (f : Account → Account) : (s.onAcct f).power = s.power := rfl
@[simp] theorem State.onAcct_incomplete (f : Account → Account) : (s.onAcct f).incomplete = s.incomplete := rfl
@[simp] theorem State.onAcct_freeDraws (f : Account → Account) : (s.onAcct f).freeDraws = s.freeDraws := rfl
@[simp] theorem State.onAcct_pending (f : Account → Account) : (s.onAcct f).pending = s.pending := rfl

/-! ### State.onTariff -/

@[simp] theorem State.onTariff_host (f : TariffStore → TariffStore) : (s.onTariff f).host = s.host := rfl
@[simp] theorem State.onTariff_acct (f : TariffStore → TariffStore) : (s.onTariff f).acct = s.acct := rfl
@[simp] theorem State.onTariff_tariff (f : TariffStore → TariffStore) : (s.onTariff f).tariff = f s.tariff := rfl
@[simp] theorem State.onTariff_resv (f : TariffStore → TariffStore) : (s.onTariff f).resv = s.resv := rfl
@[simp] theorem State.onTariff_stock (f : TariffStore → TariffStore) : (s.onTariff f).stock = s.stock := rfl
@[simp] theorem State.onTariff_journal (f : TariffStore → TariffStore) : (s.onTariff f).journal = s.journal := rfl
@[simp] theorem State.onTariff_line (f : TariffStore → TariffStore) : (s.onTariff f).line = s.line := rfl
@[simp] theorem State.onTariff_bal (f : TariffStore → TariffStore) : (s.onTariff f).bal = s.bal := rfl
@[simp] theorem State.onTariff_settle (f : TariffStore → TariffStore) : (s.onTariff f).settle = s.settle := rfl
@[simp] theorem State.onTariff_time (f : TariffStore → TariffStore) : (s.onTariff f).time = s.time := rfl
@[simp] theorem State.onTariff_ctl (f : TariffStore → TariffStore) : (s.onTariff f).ctl = s.ctl := rfl
@[simp] theorem State.onTariff_pbusy (f : TariffStore → TariffStore) : (s.onTariff f).pbusy = s.pbusy := rfl
@[simp] theorem State.onTariff_power (f : TariffStore → TariffStore) : (s.onTariff f).power = s.power := rfl
@[simp] theorem State.onTariff_incomplete (f : TariffStore → TariffStore) : (s.onTariff f).incomplete = s.incomplete := rfl
@[simp] theorem State.onTariff_freeDraws (f : TariffStore → TariffStore) : (s.onTariff f).freeDraws = s.freeDraws := rfl
@[simp] theorem State.onTariff_pending (f : TariffStore → TariffStore) : (s.onTariff f).pending = s.pending := rfl

/-! ### State.onResv -/

@[simp] theorem State.onResv_host (f : ReservationUnit → ReservationUnit) : (s.onResv f).host = s.host := rfl
@[simp] theorem State.onResv_acct (f : ReservationUnit → ReservationUnit) : (s.onResv f).acct = s.acct := rfl
@[simp] theorem State.onResv_tariff (f : ReservationUnit → ReservationUnit) : (s.onResv f).tariff = s.tariff := rfl
@[simp] theorem State.onResv_resv (f : ReservationUnit → ReservationUnit) : (s.onResv f).resv = f s.resv := rfl
@[simp] theorem State.onResv_stock (f : ReservationUnit → ReservationUnit) : (s.onResv f).stock = s.stock := rfl
@[simp] theorem State.onResv_journal (f : ReservationUnit → ReservationUnit) : (s.onResv f).journal = s.journal := rfl
@[simp] theorem State.onResv_line (f : ReservationUnit → ReservationUnit) : (s.onResv f).line = s.line := rfl
@[simp] theorem State.onResv_bal (f : ReservationUnit → ReservationUnit) : (s.onResv f).bal = s.bal := rfl
@[simp] theorem State.onResv_settle (f : ReservationUnit → ReservationUnit) : (s.onResv f).settle = s.settle := rfl
@[simp] theorem State.onResv_time (f : ReservationUnit → ReservationUnit) : (s.onResv f).time = s.time := rfl
@[simp] theorem State.onResv_ctl (f : ReservationUnit → ReservationUnit) : (s.onResv f).ctl = s.ctl := rfl
@[simp] theorem State.onResv_pbusy (f : ReservationUnit → ReservationUnit) : (s.onResv f).pbusy = s.pbusy := rfl
@[simp] theorem State.onResv_power (f : ReservationUnit → ReservationUnit) : (s.onResv f).power = s.power := rfl
@[simp] theorem State.onResv_incomplete (f : ReservationUnit → ReservationUnit) : (s.onResv f).incomplete = s.incomplete := rfl
@[simp] theorem State.onResv_freeDraws (f : ReservationUnit → ReservationUnit) : (s.onResv f).freeDraws = s.freeDraws := rfl
@[simp] theorem State.onResv_pending (f : ReservationUnit → ReservationUnit) : (s.onResv f).pending = s.pending := rfl

/-! ### State.onJournal -/

@[simp] theorem State.onJournal_host (f : Journal → Journal) : (s.onJournal f).host = s.host := rfl
@[simp] theorem State.onJournal_acct (f : Journal → Journal) : (s.onJournal f).acct = s.acct := rfl
@[simp] theorem State.onJournal_tariff (f : Journal → Journal) : (s.onJournal f).tariff = s.tariff := rfl
@[simp] theorem State.onJournal_resv (f : Journal → Journal) : (s.onJournal f).resv = s.resv := rfl
@[simp] theorem State.onJournal_stock (f : Journal → Journal) : (s.onJournal f).stock = s.stock := rfl
@[simp] theorem State.onJournal_journal (f : Journal → Journal) : (s.onJournal f).journal = f s.journal := rfl
@[simp] theorem State.onJournal_line (f : Journal → Journal) : (s.onJournal f).line = s.line := rfl
@[simp] theorem State.onJournal_bal (f : Journal → Journal) : (s.onJournal f).bal = s.bal := rfl
@[simp] theorem State.onJournal_settle (f : Journal → Journal) : (s.onJournal f).settle = s.settle := rfl
@[simp] theorem State.onJournal_time (f : Journal → Journal) : (s.onJournal f).time = s.time := rfl
@[simp] theorem State.onJournal_ctl (f : Journal → Journal) : (s.onJournal f).ctl = s.ctl := rfl
@[simp] theorem State.onJournal_pbusy (f : Journal → Journal) : (s.onJournal f).pbusy = s.pbusy := rfl
@[simp] theorem State.onJournal_power (f : Journal → Journal) : (s.onJournal f).power = s.power := rfl
@[simp] theorem State.onJournal_incomplete (f : Journal → Journal) : (s.onJournal f).incomplete = s.incomplete := rfl
@[simp] theorem State.onJournal_freeDraws (f : Journal → Journal) : (s.onJournal f).freeDraws = s.freeDraws := rfl
@[simp] theorem State.onJournal_pending (f : Journal → Journal) : (s.onJournal f).pending = s.pending := rfl

/-! ### State.onLine -/

@[simp] theorem State.onLine_host (f : LineController → LineController) : (s.onLine f).host = s.host := rfl
@[simp] theorem State.onLine_acct (f : LineController → LineController) : (s.onLine f).acct = s.acct := rfl
@[simp] theorem State.onLine_tariff (f : LineController → LineController) : (s.onLine f).tariff = s.tariff := rfl
@[simp] theorem State.onLine_resv (f : LineController → LineController) : (s.onLine f).resv = s.resv := rfl
@[simp] theorem State.onLine_stock (f : LineController → LineController) : (s.onLine f).stock = s.stock := rfl
@[simp] theorem State.onLine_journal (f : LineController → LineController) : (s.onLine f).journal = s.journal := rfl
@[simp] theorem State.onLine_line (f : LineController → LineController) : (s.onLine f).line = f s.line := rfl
@[simp] theorem State.onLine_bal (f : LineController → LineController) : (s.onLine f).bal = s.bal := rfl
@[simp] theorem State.onLine_settle (f : LineController → LineController) : (s.onLine f).settle = s.settle := rfl
@[simp] theorem State.onLine_time (f : LineController → LineController) : (s.onLine f).time = s.time := rfl
@[simp] theorem State.onLine_ctl (f : LineController → LineController) : (s.onLine f).ctl = s.ctl := rfl
@[simp] theorem State.onLine_pbusy (f : LineController → LineController) : (s.onLine f).pbusy = s.pbusy := rfl
@[simp] theorem State.onLine_power (f : LineController → LineController) : (s.onLine f).power = s.power := rfl
@[simp] theorem State.onLine_incomplete (f : LineController → LineController) : (s.onLine f).incomplete = s.incomplete := rfl
@[simp] theorem State.onLine_freeDraws (f : LineController → LineController) : (s.onLine f).freeDraws = s.freeDraws := rfl
@[simp] theorem State.onLine_pending (f : LineController → LineController) : (s.onLine f).pending = s.pending := rfl

/-! ### State.onBal -/

@[simp] theorem State.onBal_host (f : Balancer → Balancer) : (s.onBal f).host = s.host := rfl
@[simp] theorem State.onBal_acct (f : Balancer → Balancer) : (s.onBal f).acct = s.acct := rfl
@[simp] theorem State.onBal_tariff (f : Balancer → Balancer) : (s.onBal f).tariff = s.tariff := rfl
@[simp] theorem State.onBal_resv (f : Balancer → Balancer) : (s.onBal f).resv = s.resv := rfl
@[simp] theorem State.onBal_stock (f : Balancer → Balancer) : (s.onBal f).stock = s.stock := rfl
@[simp] theorem State.onBal_journal (f : Balancer → Balancer) : (s.onBal f).journal = s.journal := rfl
@[simp] theorem State.onBal_line (f : Balancer → Balancer) : (s.onBal f).line = s.line := rfl
@[simp] theorem State.onBal_bal (f : Balancer → Balancer) : (s.onBal f).bal = f s.bal := rfl
@[simp] theorem State.onBal_settle (f : Balancer → Balancer) : (s.onBal f).settle = s.settle := rfl
@[simp] theorem State.onBal_time (f : Balancer → Balancer) : (s.onBal f).time = s.time := rfl
@[simp] theorem State.onBal_ctl (f : Balancer → Balancer) : (s.onBal f).ctl = s.ctl := rfl
@[simp] theorem State.onBal_pbusy (f : Balancer → Balancer) : (s.onBal f).pbusy = s.pbusy := rfl
@[simp] theorem State.onBal_power (f : Balancer → Balancer) : (s.onBal f).power = s.power := rfl
@[simp] theorem State.onBal_incomplete (f : Balancer → Balancer) : (s.onBal f).incomplete = s.incomplete := rfl
@[simp] theorem State.onBal_freeDraws (f : Balancer → Balancer) : (s.onBal f).freeDraws = s.freeDraws := rfl
@[simp] theorem State.onBal_pending (f : Balancer → Balancer) : (s.onBal f).pending = s.pending := rfl

/-! ### State.onSettle -/

@[simp] theorem State.onSettle_host (f : SettlementUnit → SettlementUnit) : (s.onSettle f).host = s.host := rfl
@[simp] theorem State.onSettle_acct (f : SettlementUnit → SettlementUnit) : (s.onSettle f).acct = s.acct := rfl
@[simp] theorem State.onSettle_tariff (f : SettlementUnit → SettlementUnit) : (s.onSettle f).tariff = s.tariff := rfl
@[simp] theorem State.onSettle_resv (f : SettlementUnit → SettlementUnit) : (s.onSettle f).resv = s.resv := rfl
@[simp] theorem State.onSettle_stock (f : SettlementUnit → SettlementUnit) : (s.onSettle f).stock = s.stock := rfl
@[simp] theorem State.onSettle_journal (f : SettlementUnit → SettlementUnit) : (s.onSettle f).journal = s.journal := rfl
@[simp] theorem State.onSettle_line (f : SettlementUnit → SettlementUnit) : (s.onSettle f).line = s.line := rfl
@[simp] theorem State.onSettle_bal (f : SettlementUnit → SettlementUnit) : (s.onSettle f).bal = s.bal := rfl
@[simp] theorem State.onSettle_settle (f : SettlementUnit → SettlementUnit) : (s.onSettle f).settle = f s.settle := rfl
@[simp] theorem State.onSettle_time (f : SettlementUnit → SettlementUnit) : (s.onSettle f).time = s.time := rfl
@[simp] theorem State.onSettle_ctl (f : SettlementUnit → SettlementUnit) : (s.onSettle f).ctl = s.ctl := rfl
@[simp] theorem State.onSettle_pbusy (f : SettlementUnit → SettlementUnit) : (s.onSettle f).pbusy = s.pbusy := rfl
@[simp] theorem State.onSettle_power (f : SettlementUnit → SettlementUnit) : (s.onSettle f).power = s.power := rfl
@[simp] theorem State.onSettle_incomplete (f : SettlementUnit → SettlementUnit) : (s.onSettle f).incomplete = s.incomplete := rfl
@[simp] theorem State.onSettle_freeDraws (f : SettlementUnit → SettlementUnit) : (s.onSettle f).freeDraws = s.freeDraws := rfl
@[simp] theorem State.onSettle_pending (f : SettlementUnit → SettlementUnit) : (s.onSettle f).pending = s.pending := rfl

/-! ### State.onTime -/

@[simp] theorem State.onTime_host (f : Timebase → Timebase) : (s.onTime f).host = s.host := rfl
@[simp] theorem State.onTime_acct (f : Timebase → Timebase) : (s.onTime f).acct = s.acct := rfl
@[simp] theorem State.onTime_tariff (f : Timebase → Timebase) : (s.onTime f).tariff = s.tariff := rfl
@[simp] theorem State.onTime_resv (f : Timebase → Timebase) : (s.onTime f).resv = s.resv := rfl
@[simp] theorem State.onTime_stock (f : Timebase → Timebase) : (s.onTime f).stock = s.stock := rfl
@[simp] theorem State.onTime_journal (f : Timebase → Timebase) : (s.onTime f).journal = s.journal := rfl
@[simp] theorem State.onTime_line (f : Timebase → Timebase) : (s.onTime f).line = s.line := rfl
@[simp] theorem State.onTime_bal (f : Timebase → Timebase) : (s.onTime f).bal = s.bal := rfl
@[simp] theorem State.onTime_settle (f : Timebase → Timebase) : (s.onTime f).settle = s.settle := rfl
@[simp] theorem State.onTime_time (f : Timebase → Timebase) : (s.onTime f).time = f s.time := rfl
@[simp] theorem State.onTime_ctl (f : Timebase → Timebase) : (s.onTime f).ctl = s.ctl := rfl
@[simp] theorem State.onTime_pbusy (f : Timebase → Timebase) : (s.onTime f).pbusy = s.pbusy := rfl
@[simp] theorem State.onTime_power (f : Timebase → Timebase) : (s.onTime f).power = s.power := rfl
@[simp] theorem State.onTime_incomplete (f : Timebase → Timebase) : (s.onTime f).incomplete = s.incomplete := rfl
@[simp] theorem State.onTime_freeDraws (f : Timebase → Timebase) : (s.onTime f).freeDraws = s.freeDraws := rfl
@[simp] theorem State.onTime_pending (f : Timebase → Timebase) : (s.onTime f).pending = s.pending := rfl

/-! ### State.onCtl -/

@[simp] theorem State.onCtl_host (f : StationControl → StationControl) : (s.onCtl f).host = s.host := rfl
@[simp] theorem State.onCtl_acct (f : StationControl → StationControl) : (s.onCtl f).acct = s.acct := rfl
@[simp] theorem State.onCtl_tariff (f : StationControl → StationControl) : (s.onCtl f).tariff = s.tariff := rfl
@[simp] theorem State.onCtl_resv (f : StationControl → StationControl) : (s.onCtl f).resv = s.resv := rfl
@[simp] theorem State.onCtl_stock (f : StationControl → StationControl) : (s.onCtl f).stock = s.stock := rfl
@[simp] theorem State.onCtl_journal (f : StationControl → StationControl) : (s.onCtl f).journal = s.journal := rfl
@[simp] theorem State.onCtl_line (f : StationControl → StationControl) : (s.onCtl f).line = s.line := rfl
@[simp] theorem State.onCtl_bal (f : StationControl → StationControl) : (s.onCtl f).bal = s.bal := rfl
@[simp] theorem State.onCtl_settle (f : StationControl → StationControl) : (s.onCtl f).settle = s.settle := rfl
@[simp] theorem State.onCtl_time (f : StationControl → StationControl) : (s.onCtl f).time = s.time := rfl
@[simp] theorem State.onCtl_ctl (f : StationControl → StationControl) : (s.onCtl f).ctl = f s.ctl := rfl
@[simp] theorem State.onCtl_pbusy (f : StationControl → StationControl) : (s.onCtl f).pbusy = s.pbusy := rfl
@[simp] theorem State.onCtl_power (f : StationControl → StationControl) : (s.onCtl f).power = s.power := rfl
@[simp] theorem State.onCtl_incomplete (f : StationControl → StationControl) : (s.onCtl f).incomplete = s.incomplete := rfl
@[simp] theorem State.onCtl_freeDraws (f : StationControl → StationControl) : (s.onCtl f).freeDraws = s.freeDraws := rfl
@[simp] theorem State.onCtl_pending (f : StationControl → StationControl) : (s.onCtl f).pending = s.pending := rfl

/-! ### State.onDenom -/

@[simp] theorem State.onDenom_host (d : Fin 16) (f : Denom → Denom) : (s.onDenom d f).host = s.host := rfl
@[simp] theorem State.onDenom_acct (d : Fin 16) (f : Denom → Denom) : (s.onDenom d f).acct = s.acct := rfl
@[simp] theorem State.onDenom_tariff (d : Fin 16) (f : Denom → Denom) : (s.onDenom d f).tariff = s.tariff := rfl
@[simp] theorem State.onDenom_resv (d : Fin 16) (f : Denom → Denom) : (s.onDenom d f).resv = s.resv := rfl
@[simp] theorem State.onDenom_stock (d : Fin 16) (f : Denom → Denom) : (s.onDenom d f).stock = s.stock.set d (f s.stock[d]) := rfl
@[simp] theorem State.onDenom_journal (d : Fin 16) (f : Denom → Denom) : (s.onDenom d f).journal = s.journal := rfl
@[simp] theorem State.onDenom_line (d : Fin 16) (f : Denom → Denom) : (s.onDenom d f).line = s.line := rfl
@[simp] theorem State.onDenom_bal (d : Fin 16) (f : Denom → Denom) : (s.onDenom d f).bal = s.bal := rfl
@[simp] theorem State.onDenom_settle (d : Fin 16) (f : Denom → Denom) : (s.onDenom d f).settle = s.settle := rfl
@[simp] theorem State.onDenom_time (d : Fin 16) (f : Denom → Denom) : (s.onDenom d f).time = s.time := rfl
@[simp] theorem State.onDenom_ctl (d : Fin 16) (f : Denom → Denom) : (s.onDenom d f).ctl = s.ctl := rfl
@[simp] theorem State.onDenom_pbusy (d : Fin 16) (f : Denom → Denom) : (s.onDenom d f).pbusy = s.pbusy := rfl
@[simp] theorem State.onDenom_power (d : Fin 16) (f : Denom → Denom) : (s.onDenom d f).power = s.power := rfl
@[simp] theorem State.onDenom_incomplete (d : Fin 16) (f : Denom → Denom) : (s.onDenom d f).incomplete = s.incomplete := rfl
@[simp] theorem State.onDenom_freeDraws (d : Fin 16) (f : Denom → Denom) : (s.onDenom d f).freeDraws = s.freeDraws := rfl
@[simp] theorem State.onDenom_pending (d : Fin 16) (f : Denom → Denom) : (s.onDenom d f).pending = s.pending := rfl

/-! ### State.drawn -/

@[simp] theorem State.drawn_host : s.drawn.host = s.host := rfl
@[simp] theorem State.drawn_acct : s.drawn.acct = s.acct := rfl
@[simp] theorem State.drawn_tariff : s.drawn.tariff = s.tariff := rfl
@[simp] theorem State.drawn_resv : s.drawn.resv = s.resv := rfl
@[simp] theorem State.drawn_stock : s.drawn.stock = s.stock := rfl
@[simp] theorem State.drawn_journal : s.drawn.journal = s.journal := rfl
@[simp] theorem State.drawn_line : s.drawn.line = s.line := rfl
@[simp] theorem State.drawn_bal : s.drawn.bal = s.bal := rfl
@[simp] theorem State.drawn_settle : s.drawn.settle = s.settle := rfl
@[simp] theorem State.drawn_time : s.drawn.time = s.time := rfl
@[simp] theorem State.drawn_ctl : s.drawn.ctl = s.ctl := rfl
@[simp] theorem State.drawn_pbusy : s.drawn.pbusy = s.pbusy := rfl
@[simp] theorem State.drawn_power : s.drawn.power = s.power := rfl
@[simp] theorem State.drawn_incomplete : s.drawn.incomplete = s.incomplete := rfl
@[simp] theorem State.drawn_freeDraws : s.drawn.freeDraws = s.freeDraws + 1 := rfl
@[simp] theorem State.drawn_pending : s.drawn.pending = s.pending := rfl

/-! ### State.latch -/

@[simp] theorem State.latch_host (a : Alert) : (s.latch a).host = { s.host with alerts := s.host.alerts.latch a } := rfl
@[simp] theorem State.latch_acct (a : Alert) : (s.latch a).acct = s.acct := rfl
@[simp] theorem State.latch_tariff (a : Alert) : (s.latch a).tariff = s.tariff := rfl
@[simp] theorem State.latch_resv (a : Alert) : (s.latch a).resv = s.resv := rfl
@[simp] theorem State.latch_stock (a : Alert) : (s.latch a).stock = s.stock := rfl
@[simp] theorem State.latch_journal (a : Alert) : (s.latch a).journal = s.journal := rfl
@[simp] theorem State.latch_line (a : Alert) : (s.latch a).line = s.line := rfl
@[simp] theorem State.latch_bal (a : Alert) : (s.latch a).bal = s.bal := rfl
@[simp] theorem State.latch_settle (a : Alert) : (s.latch a).settle = s.settle := rfl
@[simp] theorem State.latch_time (a : Alert) : (s.latch a).time = s.time := rfl
@[simp] theorem State.latch_ctl (a : Alert) : (s.latch a).ctl = s.ctl := rfl
@[simp] theorem State.latch_pbusy (a : Alert) : (s.latch a).pbusy = s.pbusy := rfl
@[simp] theorem State.latch_power (a : Alert) : (s.latch a).power = s.power := rfl
@[simp] theorem State.latch_incomplete (a : Alert) : (s.latch a).incomplete = s.incomplete := rfl
@[simp] theorem State.latch_freeDraws (a : Alert) : (s.latch a).freeDraws = s.freeDraws := rfl
@[simp] theorem State.latch_pending (a : Alert) : (s.latch a).pending = s.pending := rfl

/-! ### State.setLimit -/

@[simp] theorem State.setLimit_host : s.setLimit.host = s.host := rfl
@[simp] theorem State.setLimit_acct : s.setLimit.acct = { s.acct with limit := true } := rfl
@[simp] theorem State.setLimit_tariff : s.setLimit.tariff = s.tariff := rfl
@[simp] theorem State.setLimit_resv : s.setLimit.resv = s.resv := rfl
@[simp] theorem State.setLimit_stock : s.setLimit.stock = s.stock := rfl
@[simp] theorem State.setLimit_journal : s.setLimit.journal = s.journal := rfl
@[simp] theorem State.setLimit_line : s.setLimit.line = s.line := rfl
@[simp] theorem State.setLimit_bal : s.setLimit.bal = s.bal := rfl
@[simp] theorem State.setLimit_settle : s.setLimit.settle = s.settle := rfl
@[simp] theorem State.setLimit_time : s.setLimit.time = s.time := rfl
@[simp] theorem State.setLimit_ctl : s.setLimit.ctl = s.ctl := rfl
@[simp] theorem State.setLimit_pbusy : s.setLimit.pbusy = s.pbusy := rfl
@[simp] theorem State.setLimit_power : s.setLimit.power = s.power := rfl
@[simp] theorem State.setLimit_incomplete : s.setLimit.incomplete = s.incomplete := rfl
@[simp] theorem State.setLimit_freeDraws : s.setLimit.freeDraws = s.freeDraws := rfl
@[simp] theorem State.setLimit_pending : s.setLimit.pending = s.pending := rfl

end Sys2Proof.Machine
end

