-- ==== Sys2Proof/Laws/Shared.lean ====
section
/-! SUPPORT. What each shared operation can do, said once: the taking of a request, the standing, the journal, the
outbound list, the transmit queue and the reservations. Statements cite these and leave the operations folded. -/

namespace Sys2Proof.Machine

/-! ### Bytes and frames -/

@[simp] theorem beBytes_length (k n : Nat) : (beBytes k n).length = k := by
  induction k with
  | zero => rfl
  | succ k ih => simp [beBytes, ih]

theorem byteSum_append (a b : List Byte) : byteSum (a ++ b) = byteSum a + byteSum b := by
  have key : ∀ (l : List Byte) (x : Byte), l.foldl (· + ·) x = x + l.foldl (· + ·) 0 := by
    intro l
    induction l with
    | nil => intro x; simp
    | cons c l ih => intro x; simp only [List.foldl_cons]; rw [ih (x + c), ih (0 + c)]; simp [BitVec.add_assoc]
  simp only [byteSum, List.foldl_append]
  exact key b _

/-- A frame closed with its check byte sums to 0 (R189). -/
@[simp] theorem byteSum_withCheck (bs : List Byte) : byteSum (withCheck bs) = 0 := by
  rw [withCheck, byteSum_append]
  simp [byteSum, BitVec.add_neg_eq_sub]

/-- The parameter bytes of a request are as many as R190 gives. -/
theorem requestParams_length (r : Request) : (requestParams r).length = r.paramCount := by
  cases r <;> simp [requestParams, Request.paramCount, List.length_flatMap, itemBytes, bandBytes, List.map_const',
    Nat.mul_comm] <;> omega

@[simp] theorem requestFrame_length (r : Request) : (requestFrame r).length = r.paramCount + 3 := by
  simp [requestFrame, withCheck, requestParams_length]

/-- A request that fits its frame fits the request buffer whole. -/
theorem requestFrame_take {r : Request} (h : r.paramCount ≤ 60) : (requestFrame r).take 63 = requestFrame r :=
  List.take_of_length_le (by simp; omega)

/-! ### Taking a request -/

/-- A request that fits and finds RDY high is taken: its owning block runs with the request in the buffer. -/
theorem hostRequest_ready {s : State} {r : Request} (h : s.ready) (hr : r.paramCount ≤ 60) (supv : Option Bool)
    (run : State → State × Answer) :
    s.hostRequest r supv run = State.answered (run { s with host :=
      { s.host with request := requestFrame r, response := none, overrun := false, rdy := false,
                    supv := supv.getD s.host.supv } }) := by
  obtain ⟨h1, h2⟩ := h
  simp [State.hostRequest, State.takeRequest, State.powered, State.acceptRequest, State.onHost, h1, h2, hr,
    requestFrame_take hr]

end Sys2Proof.Machine
end

