-- ==== Sys2Proof/Laws/Ops.lean ====
section
/-! SUPPORT. One equation per shared operation of Machine/Ops.lean: what it changes, and that it changes nothing else. A
proof that meets an operation cites its equation and leaves the operation folded. -/

namespace Sys2Proof.Machine

variable (s : State)

/-! ### Alerts, journal, notice -/

/-- A latch under a condition changes the alert set alone. -/
theorem latchIf_eq (b : Bool) (a : Alert) :
    s.latchIf b a = { s with host := { s.host with alerts := if b then s.host.alerts.latch a else s.host.alerts } } := by
  cases b <;> rfl

/-- Appending an entry changes the journal, and JOURNAL_NEAR_FULL with the 200th (R87, R92). -/
theorem append_eq (kind : EntryKind) (peer : Option Station) (serial : Option Nat) (denom : Option (Fin 16))
    (direction : Option Direction) (amount : Nat) (balance : Option Nat) :
    s.append kind peer serial denom direction amount balance = { s with
      journal := s.journalWith kind peer serial denom direction amount balance,
      host := { s.host with alerts := s.nearFull s.host.alerts } } := by
  unfold State.append State.journalWith State.nearFull State.latchIf
  cases s.journal.entries.length == 199 <;> simp [State.latch, AlertStore.latch, State.onHost, State.onJournal]

/-- Giving CREDIT a value without a move into LOW or EMPTY changes CREDIT alone (R12, R13). -/
theorem setCredit_quiet (c : Nat) (h : s.entersShort c = false) :
    s.setCredit c = { s with acct := { s.acct with credit := c } } := by
  unfold State.setCredit
  rw [if_neg]
  · rfl
  · intro hb
    rw [Bool.and_eq_true] at hb
    have hs : (s.onAcct fun a => { a with credit := c }).standing = s.standingAt c := rfl
    rw [hs] at hb
    simp only [State.entersShort, Bool.and_eq_false_iff] at h
    rcases h with h | h
    · cases hc : s.standingAt c <;> simp_all [Standing.short]
    · exact absurd hb.2 (by simp [h])

/-- Giving CREDIT a value that moves the standing into LOW or EMPTY latches LOW_CREDIT and wakes the balancer (R13). -/
theorem setCredit_wakes (c : Nat) (h : s.entersShort c = true) :
    s.setCredit c = { s with
      acct := { s.acct with credit := c },
      host := { s.host with alerts := { s.host.alerts with lowCredit := true } },
      bal := { s.bal with wakes := s.bal.wakes + 1 } } := by
  unfold State.setCredit
  rw [if_pos]
  · rfl
  · have hs : (s.onAcct fun a => { a with credit := c }).standing = s.standingAt c := rfl
    rw [hs]
    simp only [State.entersShort, Bool.and_eq_true] at h
    cases hc : s.standingAt c <;> simp_all [Standing.short]

/-- A notice changes station control alone (R59, R157, R164). -/
theorem notice_eq : s.notice = { s with ctl := s.notice.ctl } := by
  unfold State.notice
  split <;> rfl

/-- The denominations that exist are those of R167's row, in index order. -/
theorem denoms_eq :
    s.denoms = (List.finRange 16).filter fun d => decide (d.val < s.ctl.config.denomCount.value) := by
  have hr : List.range 16 = (List.finRange 16).map Fin.val := by decide
  rw [State.denoms, hr, List.filterMap_map, ← List.filterMap_eq_filter]
  congr 1
  funext d
  simp [State.denomAt, Option.guard, d.isLt]

/-- What the park image holds after its header is what R167's table lists. -/
theorem imageBody_eq : s.imageBody = s.frozenRecords := by
  simp [State.imageBody, State.frozenRecords, denoms_eq]

theorem stationNumber_eq : s.stationNumber = (s.ctl.config.station.map (·.val)).getD 0 := by
  unfold State.stationNumber
  cases s.ctl.config.station <;> rfl

/-- The image formed at an entry to PARKED is the entry image of that moment (R167, R168). -/
theorem parkImage_entry (generation : Nat) : s.entryImage generation (s.parkImage generation) := by
  simp only [State.entryImage, State.parkImage, imageBody_eq, stationNumber_eq]

/-- Outside PARKING a notice changes nothing. -/
theorem notice_of_not_parking (h : s.ctl.state ≠ .parking) : s.notice = s := by
  simp [State.notice, h]

/-! ### Transmit queue -/

/-- What the owner of a frame that left the queue does: the waits of the records whose GIVE it is (R109, R142). -/
theorem frameLeft_eq (p : Payload) :
    s.frameLeft p = { s with settle := { s.settle with records := s.settle.records.map (startWait p) } } := rfl

/-- Starting a wait changes nothing of a record but its wait. -/
theorem startWait_eq (p : Payload) (r : OutRecord) : startWait p r = { r with wait := (startWait p r).wait } := by
  unfold startWait
  split <;> rfl

/-- The frame that leaves is no GIVE: no wait starts. -/
theorem startWait_of_not_give {p : Payload} {r : OutRecord} (h : p.isGiveOf r.receiver r.serial = false) :
    startWait p r = r := by
  simp [startWait, h]

/-- Placing a frame changes the line and the waits of the records, and nothing else (R106 to R109). -/
theorem place_eq (p : Payload) :
    s.place p = { s with line := (s.place p).line, settle := (s.place p).settle } := by
  unfold State.place
  split
  · rfl
  · split
    · rfl
    · split
      · rfl
      · unfold State.placeFull
        split
        · split <;> rfl
        · rfl

/-- A withdrawn GIVE changes the transmit queue alone (R143, R144). -/
theorem withdrawGive_eq (k : Station) (serial : BitVec 16) :
    s.withdrawGive k serial = { s with line := { s.line with tx := (s.withdrawGive k serial).line.tx } } := rfl

/-- A return to UP changes the line state and the run count alone (R105). -/
theorem returnToUp_eq :
    s.returnToUp = { s with line := { s.line with
      state := .up, runCount := if s.line.state = .alone then 0 else s.line.runCount } } := by
  unfold State.returnToUp State.onLine
  by_cases h : s.line.state = .alone
  · simp only [if_pos h]
  · simp only [if_neg h]
    have hu : s.line.state = .up := by cases hs : s.line.state <;> simp_all
    rw [← hu]

/-- An inserted frame is in the queue with those that were in it. -/
theorem mem_insertTx {e x : TxEntry} {q : List TxEntry} : x ∈ insertTx e q ↔ x = e ∨ x ∈ q := by
  induction q with
  | nil => simp [insertTx]
  | cons y ys ih =>
    simp only [insertTx]
    split
    · simp only [List.mem_cons, ih]
      constructor <;> (rintro (h | h | h) <;> simp [h])
    · simp only [List.mem_cons]

/-- An inserted frame makes the queue one longer. -/
@[simp] theorem insertTx_length (e : TxEntry) (q : List TxEntry) : (insertTx e q).length = q.length + 1 := by
  induction q with
  | nil => rfl
  | cons y ys ih =>
    simp only [insertTx]
    split <;> simp [ih]

/-- Insertion keeps the queue in the order of the kinds (R106). -/
theorem insertTx_sorted (e : TxEntry) (q : List TxEntry) (h : (q.map (·.payload.kind)).Pairwise (· ≤ ·)) :
    ((insertTx e q).map (·.payload.kind)).Pairwise (· ≤ ·) := by
  induction q with
  | nil => simp [insertTx]
  | cons y ys ih =>
    simp only [List.map_cons, List.pairwise_cons] at h
    simp only [insertTx]
    split
    · rename_i hy
      simp only [List.map_cons, List.pairwise_cons]
      refine ⟨?_, ih h.2⟩
      intro k hk
      obtain ⟨x, hx, rfl⟩ := List.mem_map.1 hk
      rcases mem_insertTx.1 hx with rfl | hx
      · exact hy
      · exact h.1 _ (List.mem_map.2 ⟨x, hx, rfl⟩)
    · rename_i hy
      simp only [List.map_cons, List.pairwise_cons]
      refine ⟨?_, h.1, h.2⟩
      intro k hk
      rcases List.mem_cons.1 hk with rfl | hk
      · omega
      · have := h.1 k hk
        omega

/-! ### Outbound records, receipts -/

/-- Stranding a record: the outbound list, STRANDED, the queue, and station control (R143, R157). -/
theorem strand_eq (r : OutRecord) :
    let u : State := { s with
      settle := { s.settle with records := updateRecord (·.isOf r.receiver r.serial) OutRecord.stranded s.settle.records },
      host := { s.host with alerts := { s.host.alerts with stranded := true } },
      line := (s.withdrawGive r.receiver r.serial).line }
    s.strand r = { u with ctl := u.notice.ctl } := by
  intro u
  exact notice_eq u

/-- Writing a receipt-table entry changes the receipt table alone (R146). -/
theorem setReceipt_eq (k : Station) (serial : BitVec 16) (v : Verdict) :
    s.setReceipt k serial v = { s with settle := { s.settle with
      receipts := s.settle.receipts.set k.slot (some { serial := serial, verdict := v }) } } := rfl

/-- The three judgements of a serial, by the difference modulo 65,536 (R147). -/
theorem judge_cases (e : Receipt) (n : BitVec 16) :
    (n = e.serial → judge (some e) n = .equal e.verdict) ∧
    (1 ≤ (n - e.serial).toNat → (n - e.serial).toNat ≤ 32767 → judge (some e) n = .newer) ∧
    (32768 ≤ (n - e.serial).toNat → judge (some e) n = .older) := by
  refine ⟨?_, ?_, ?_⟩
  · rintro rfl; simp [judge]
  · intro h1 h2
    have : (n - e.serial).toNat ≠ 0 := by omega
    simp only [judge]
    rw [if_neg this, if_pos h2]
  · intro h
    have h1 : (n - e.serial).toNat ≠ 0 := by omega
    have h2 : ¬ (n - e.serial).toNat ≤ 32767 := by omega
    simp only [judge]
    rw [if_neg h1, if_neg h2]

/-! ### Reservations -/

/-- Charging one item moves its value from HELD to USED and counts it in its class, and changes nothing else (R8, R66). -/
theorem chargeItem_eq (i : ResItem) :
    s.chargeItem i = { s with
      acct := { s.acct with held := s.acct.held - i.value, used := s.acct.used + i.value },
      resv := { s.resv with totals := s.resv.totals.set i.cls {
        count := min (s.resv.totals[i.cls].count + 1) 4294967295,
        value := s.resv.totals[i.cls].value + i.value } } } := rfl

/-- Charging several items: HELD falls and USED rises by the sum of their values, and the class totals change with them. -/
theorem chargeItems_eq (items : List ResItem) :
    items.foldl (fun t i => t.chargeItem i) s = { s with
      acct := { s.acct with
        held := s.acct.held - (items.map (·.value)).sum, used := s.acct.used + (items.map (·.value)).sum },
      resv := { s.resv with totals := (items.foldl (fun t i => t.chargeItem i) s).resv.totals } } := by
  induction items generalizing s with
  | nil => rfl
  | cons i is ih =>
    simp only [List.foldl_cons, List.map_cons, List.sum_cons]
    rw [ih (s.chargeItem i)]
    simp only [chargeItem_eq, Nat.sub_sub, Nat.add_assoc]

/-- The expiry of a reservation: registers, class totals and table, RESERVATION_EXPIRED, and station control (R60, R65). -/
theorem expire_eq (r : Reservation) :
    s.expire r = ((s.closeAsPrinted r).latchIf (!r.grantedItems.isEmpty) .reservationExpired).notice := rfl

/-- Closing a reservation as printed charges its GRANTED items and takes it out of the table, and nothing else (R60,
R67). -/
theorem closeAsPrinted_eq (r : Reservation) :
    s.closeAsPrinted r = { s with
      acct := { s.acct with held := s.acct.held - r.grantedValue, used := s.acct.used + r.grantedValue },
      resv := { s.resv with
        table := s.resv.table.eraseP (·.id == r.id),
        totals := (r.grantedItems.foldl (fun t i => t.chargeItem i) s).resv.totals } } := by
  unfold State.closeAsPrinted
  rw [chargeItems_eq]
  rfl

/-! ### Tariff, inspection, handing on -/

/-- A day event at the tariff store: a due READY bank is switched in and TARIFF_SWITCHED latches; otherwise nothing (R34,
R35). -/
theorem tariffDay_eq :
    s.tariffDay = { s with
      tariff := if s.tariff.dueOn s.time.day then s.tariff.switched else s.tariff,
      host := { s.host with alerts := { s.host.alerts with
        tariffSwitched := s.host.alerts.tariffSwitched || s.tariff.dueOn s.time.day } } } := by
  unfold State.tariffDay TariffStore.dueOn
  by_cases h : s.tariff.stagedState = .ready ∧ s.tariff.effectiveDay ≤ s.time.day
  · rw [if_pos h]
    simp only [h.1, h.2, beq_self_eq_true, decide_true, Bool.and_self, if_true, Bool.or_true]
    rfl
  · rw [if_neg h]
    have hb : (s.tariff.stagedState == .ready && decide (s.tariff.effectiveDay ≤ s.time.day)) = false := by
      rw [← Bool.not_eq_true, Bool.and_eq_true]
      simpa using h
    simp [hb]

/-- A rise of the inspection count changes it alone, and INSPECTION_DUE when it comes to N (R176). -/
theorem raiseInspection_eq (days : Nat) :
    let n := s.ctl.config.inspectDays.value
    let count := min (s.time.inspection + days) (n + s.ctl.config.graceDays.value)
    s.raiseInspection days = { s with
      time := { s.time with inspection := count },
      host := { s.host with alerts := { s.host.alerts with
        inspectionDue := s.host.alerts.inspectionDue || (s.time.inspection < n && n ≤ count) } } } := by
  intro n count
  have key : ∀ (a : AlertStore) (b : Bool), (if b then a.latch .inspectionDue else a) =
      { a with inspectionDue := a.inspectionDue || b } := by
    intro a b
    cases b <;> simp [AlertStore.latch]
  simp only [State.raiseInspection, latchIf_eq, key]
  rfl

/-- Counting on changes seconds-of-day and the day number alone (R171, R172). -/
theorem countOn_eq (ms : Nat) (t : Timebase) :
    t.countOn ms = { t with
      day := (t.countOn ms).day, seconds := (t.countOn ms).seconds, subMs := (t.countOn ms).subMs } := rfl

/-- No time held, within a second: the time of day stands. -/
theorem countOn_zero (t : Timebase) (hd : t.day ≤ 65535) (hs : t.seconds ≤ 86399) (hm : t.subMs ≤ 999) :
    t.countOn 0 = t := by
  obtain ⟨seconds, subMs, day, _, _, _, _⟩ := t
  simp only at hd hs hm
  simp only [Timebase.countOn, dayMs, Timebase.mk.injEq, and_true]
  omega

/-- The hold of RESETN moves the time of day alone, and only where the day runs (R173). -/
theorem holdReset_eq :
    s.holdReset = { s with
      time := if s.dayRuns then s.time.countOn (Config.resetHeldMs s.freeDraws) else s.time,
      freeDraws := if s.dayRuns then s.freeDraws + 1 else s.freeDraws } := by
  unfold State.holdReset
  split <;> rfl

/-- A block that has taken its frame changes the hand-over slots and the held frame alone (R111). -/
theorem frameTakenBy_eq (h : Handler) : s.frameTakenBy h = { s with line := (s.frameTakenBy h).line } := rfl

/-- Handing a frame on changes the line controller alone (R111). -/
theorem handOn_eq (f : Frame) : s.handOn f = { s with line := (s.handOn f).line } := by
  unfold State.handOn
  split
  · rfl
  · split <;> rfl

end Sys2Proof.Machine
end

