-- ==== Sys2Proof/Tests/Slice0.lean ====
section
/-! SUPPORT. The model's own tests: what well-formedness refuses, worked values of the data book, and for each
statement of Certificates/Slice0/Obligations.lean that has hypotheses a state and operands that meet them, clause by
clause. -/

namespace Sys2Proof.Tests
open Sys2Proof.Machine

/-! ### States to test on -/

def k2 : Station := ⟨2, by decide⟩
def k3 : Station := ⟨3, by decide⟩
def k9 : Station := ⟨9, by decide⟩

/-- Station 3 of branch 7 with two denominations of 85 and 145 cents; the other items as before any write. -/
def config3 : ConfigStore :=
  { ConfigStore.initial with
    station := some k3, branch := .written 7, day := some 40, denomCount := .written 2,
    faces := (ConfigStore.initial.faces.set 0 (some 85)).set 1 (some 145) }

/-- Station 3 right after its commit, RDY high and nothing waiting. -/
def station3 : State :=
  { State.reset with
    ctl := { state := .active, config := config3, image := [] }, time := Timebase.committed 40,
    line := LineController.started (some k3) }

/-- Station 3 with this CREDIT, loaded by vouchers. -/
def withCredit (c : Nat) : State := { station3 with acct := { Account.zero with credit := c, loaded := c } }

/-- Station 3 in another station state. -/
def inState (st : StationState) : State := { station3 with ctl := { station3.ctl with state := st } }

/-- A journal entry of sequence number n. -/
def entryAt (n : Nat) : Entry :=
  { seq := n, day := 1, kind := .stockIn, peer := none, serial := none, denom := some 0, direction := none, amount := 1,
    balance := some 1 }

/-- A state with this many entries in the journal. -/
def withEntries (n : Nat) (s : State) : State :=
  { s with journal := { entries := (List.range n).map fun i => entryAt (i + 1), nextSeq := n + 1 } }

/-- The data book's class 2 (letter post), active as generation 13, with its surcharges. -/
def bank13 : Bank :=
  { generation := 13, effectiveDay := 0,
    content := {
      surcharges := #v[0, 310, 150, 0, 540, 450, 0, 0],
      classes := BankContent.empty.classes.set 2 (some {
        rounding := .half, factors := [65536, 72090, 78643, 88474], services := 0b110,
        bands := [{ upper := 20, base := 85000, stepSize := 0, stepCharge := 0 },
                  { upper := 100, base := 125000, stepSize := 20, stepCharge := 9500 }] }) } }

/-- A state with that bank active. -/
def withBank (s : State) : State := { s with tariff := { s.tariff with active := some bank13 } }

/-- The data book's 57-gram registered letter: class 2, zone 3, service 1. -/
def letter57 : Item := { cls := 2, weight := 57, zone := 3, services := 0b10 }

/-- A reservation with one GRANTED item of 30 cents and one PRINTED item. -/
def resv1 : Reservation :=
  { id := 1, generation := 5, grantTime := 0, deadline := 8000, hardLimit := some 32000, phase := .running,
    items := [{ cls := 2, value := 30, state := .granted }, { cls := 2, value := 5, state := .printed }] }

/-- A state with these reservations open, their GRANTED values held. -/
def withTable (rs : List Reservation) (s : State) : State :=
  { s with
    resv := { s.resv with table := rs, nextId := 2 },
    acct := { s.acct with
      held := (rs.map Reservation.grantedValue).sum, loaded := s.acct.loaded + (rs.map Reservation.grantedValue).sum } }

/-- An outbound record of 400 cents to station 2. -/
def record2 : OutRecord :=
  { receiver := k2, serial := 5, body := .credit 400, state := .unsettled, sends := 1, wait := .running 10 }

/-- An outbound record of 6 stamps to station 9. -/
def record9 : OutRecord :=
  { receiver := k9, serial := 6, body := .stock 1 6 145, state := .unsettled, sends := 4, wait := .running 0 }

/-- A state with these outbound records. -/
def withRecords (rs : List OutRecord) (s : State) : State := { s with settle := { s.settle with records := rs } }

/-- A ROLL content: ACTIVE, SURPLUS, can-give. -/
def rollOf (spare : BitVec 32) : RollContent :=
  { state := .active, standing := .surplus, spare := spare, period := 10, generation := 5, canGive := true }

/-- A state in which station 2 is PRESENT with that ROLL. -/
def withPeer2 (s : State) : State :=
  s.onPeer k2 fun _ => { presence := .present, silence := 0, roll := some (rollOf 70000) }

/-- A frame handed to each block. -/
def handedSettlement (p : Payload) (s : State) : State := s.onLine fun l => { l with toSettlement := some ⟨k2, p⟩ }
def handedOfferer (p : Payload) (s : State) : State := s.onLine fun l => { l with toOfferer := some ⟨k2, p⟩ }
def handedBalancer (p : Payload) (s : State) : State := s.onLine fun l => { l with toBalancer := some ⟨k2, p⟩ }

/-- A state with this transmit queue. -/
def withTx (q : List TxEntry) (s : State) : State := s.onLine fun l => { l with tx := q }

/-- A state in line state ALONE. -/
def alone (s : State) : State := s.onLine fun l => { l with state := .alone, runCount := 8 }

/-- A state with stamps of denomination 0. -/
def withStamps (n : Nat) (s : State) : State :=
  s.onDenom 0 fun d => { d with onHand := n, received := n }

/-- A step answers a next state that passes a test. -/
def stepGives (s : State) (test : State → Bool) : Bool :=
  match step s with
  | .next t => test t
  | _ => false

/-- The refusal of a batch by rating. -/
def errorOf {α ε : Type} : Except ε α → Option ε
  | .error e => some e
  | .ok _ => none

/-! ### Well-formedness refuses what no frame can carry -/

theorem test_imprint_of_12_refused : (Instr.imprint (List.replicate 12 letter57)).wellFormed = false := by decide
theorem test_head_of_19_factors_refused :
    (Instr.tariffClassHead true 2 1 6 2 (List.replicate 19 65536)).wellFormed = false := by decide
theorem test_bands_of_5_refused :
    (Instr.tariffClassBands true 2 0 (List.replicate 5 ⟨1, 1, 1, 1⟩)).wellFormed = false := by decide
theorem test_empty_transaction_refused : (Instr.badFrame [] true).wellFormed = false := by decide
theorem test_fetch_byte_refused : (Instr.badFrame [0x00, 0x00, 0x00] true).wellFormed = false := by decide
theorem test_nine_byte_frame_refused : (Instr.frameArrival 0x1C2 (List.replicate 9 0)).wellFormed = false := by decide
theorem test_tariff_section_2_is_no_other : (Request.tariffOther 2 2 []).wellFormed = false := by decide
theorem test_imprint_of_11_fits : (Instr.imprint (List.replicate 11 letter57)).wellFormed = true := by decide

/-! ### Values the data book works -/

/-- R16: the check of the nine ASCII digits. -/
theorem test_crc_of_the_digits : crc32 [0x31, 0x32, 0x33, 0x34, 0x35, 0x36, 0x37, 0x38, 0x39] = 0xCBF43926 := by
  decide +kernel

/-- Chapter 2, the 57-gram registered letter and the band edges of class 2. -/
theorem test_rating_of_class_2 :
    (rateItem bank13.content letter57).toOption = some (2, 504) ∧
    (rateItem bank13.content { letter57 with weight := 20, services := 0 }).toOption = some (2, 115) ∧
    (rateItem bank13.content { letter57 with weight := 21, services := 0 }).toOption = some (2, 182) ∧
    (rateItem bank13.content { letter57 with weight := 100, services := 0 }).toOption = some (2, 220) ∧
    (rateItem bank13.content { letter57 with weight := 20, zone := 1, services := 0 }).toOption = some (2, 94) := by
  decide +kernel

/-- Chapter 3, the four examples of id choice. -/
theorem test_id_choice :
    (freeId [] 5 1, freeId [1, 3] 5 3, freeId [254, 255, 1] 5 254, freeId [2] 5 255) = (1, 4, 2, 255) := by decide

/-- R147, the rows on both sides of the half range and across the wrap. -/
theorem test_serials_by_half_range :
    judge (some ⟨10, .received⟩) 65530 = .older ∧ judge (some ⟨100, .received⟩) 32868 = .older ∧
    judge (some ⟨100, .received⟩) 32867 = .newer ∧ judge (some ⟨65530, .voided⟩) 3 = .newer ∧
    judge (some ⟨7, .voided⟩) 7 = .equal .voided ∧ judge none 0 = .newer := by decide

/-- R189, the frame of SELL: code 0x20, length 3, denomination 1, count 5, and the check that makes the sum 0. -/
theorem test_frame_of_sell : requestFrame (.sell 1 5) = [0x20, 0x03, 0x01, 0x00, 0x05, 0xD7] := by decide

/-- R101, chapter 6: station 5's QUERY bears identifier 117 and its GIVE 21. -/
theorem test_identifiers_of_station_5 :
    (Payload.query 9 1).identifier ⟨5, by decide⟩ = 117 ∧
    (Payload.give 6 1 (.credit 1)).identifier ⟨5, by decide⟩ = 21 := by decide

/-- Chapter 6, step 3 of the crowded queue: a VOID displaces the waiting ROLL of a full queue. -/
theorem test_void_displaces_the_roll :
    let p (r : RollContent) : List Payload :=
      [.give 6 1 (.credit 1), .reply .got 11 1, .reply .defer 12 1, .query 9 1, .noneLeft 2, .offer 3 1, .offer 7 1, .roll r]
    let s := withTx ((p (rollOf 0)).map TxEntry.fresh) station3
    ((s.place (.reply .void 4 1)).line.tx.map (·.payload.kind), (s.place (.reply .void 4 1)).line.queueDrops) =
      ([1, 2, 3, 4, 7, 9, 10, 10], 1) := by decide +kernel

/-- Chapter 1, voucher refusals: CREDIT moves only with the next serial, and an equal one is a duplicate. -/
theorem test_voucher_order :
    let s : State := { withCredit 4000 with acct := { (withCredit 4000).acct with lastSerial := 7 } }
    let v (n : BitVec 32) := s.voucherTest 7 3 n 30000 (voucherCheck s.ctl.config.key 7 3 n 30000)
    (v 9, v 8, v 7) = (some .voucherSequence, none, some .voucherDuplicate) := by decide +kernel

/-! ### Witnesses: the hypotheses of each statement are met, clause by clause -/

/-- Events due; main power off; UNCONFIGURED; committed with nothing due. -/
theorem test_witness_OwnClockRunsOnEmptyQueue :
    (station3.pending = [] ∧ station3.dueEvents = [.rollTick (Config.tickOrder 0)]) ∧
    (let s : State := { station3 with power := .off }
     s.pending = [] ∧ s.dueEvents = [] ∧ s.power = .off) ∧
    (State.reset.pending = [] ∧ State.reset.dueEvents = [] ∧ State.reset.power = .on ∧
      State.reset.ctl.state = .unconfigured) ∧
    (let s := station3.onLine fun l => { l with rollTimer := .running 1 }
     s.pending = [] ∧ s.dueEvents = [] ∧ s.power = .on ∧ s.ctl.state ≠ .unconfigured) := by
  refine ⟨⟨rfl, rfl⟩, by decide +kernel, by decide +kernel, by decide +kernel⟩

/-- A request while RDY is low, of each sort. -/
theorem test_witness_RequestWhileRdyLowIsDiscarded :
    let s : State := { station3 with host := { station3.host with rdy := false, answer := some (.result .ok []) } }
    s.power = .on ∧ s.host.rdy = false ∧ clerkRow (.sell 0 1) = some (.sell 0 1) ∧
      supervisorRow true .park = some (.park true) ∧ [(0x20 : Byte)].headD 0 ≠ 0 := by decide

/-- A result and a SET_DAY report await their response; a response waits to be fetched; none does; a request's first byte. -/
theorem test_witness_ResponseIsFormedAndFetched :
    (let s : State := { station3 with host := { station3.host with answer := some (.result .ok [1, 2]) } }
     s.power = .on ∧ s.host.answer = some (.result .ok [1, 2])) ∧
    (let s : State := { station3 with host := { station3.host with answer := some (.setDayReport 40 90 .due) } }
     s.power = .on ∧ s.host.answer = some (.setDayReport 40 90 .due)) ∧
    (let s : State := { station3 with host := { station3.host with response := some [0, 0, 0] } }
     s.host.rdy = true ∧ s.host.response = some [0, 0, 0]) ∧ station3.host.response = none ∧ (0x20 : Byte) ≠ 0 := by decide

/-- A STATUS can be taken, and a taken one awaits its response. -/
theorem test_witness_StatusReportsAndClearsAlerts :
    station3.ready ∧
    (let s : State := { station3 with host := { station3.host with answer := some .statusReport } }
     s.power = .on ∧ s.host.answer = some .statusReport) := by decide

/-- A record at the last CLASSES index and none after it, with the cursor there; an image in PARKED; CONFIG while
UNCONFIGURED; a record of each region at its last index, with roll content and without. -/
theorem test_witness_ReadsAnswerTheRecordOrEnd :
    (let s : State := { station3 with host := { station3.host with cursorRegion := .classes, cursorIndex := 7 } }
     s.ready ∧ (s.ctl.state = .unconfigured → Region.classes = .config) ∧ (s.recordAt .classes 7).isSome = true ∧
       s.recordAt .classes 8 = none ∧ s.host.cursorRegion = .classes ∧ s.host.cursorIndex = 7) ∧
    ((inState .parked).ready ∧ (inState .parked).ctl.state = .parked) ∧
    (State.reset.ready ∧ (State.reset.recordAt .config 13).isSome = true ∧ State.reset.recordAt .config 30 = none) ∧
    (let s := withPeer2 (withRecords [record2] (withEntries 3 station3))
     let p : State := { s with ctl := { s.ctl with image := s.parkImage 13 } }
     (p.recordAt .journal 2).isSome = true ∧ (p.recordAt .peers 14).isSome = true ∧ (p.recordAt .stock 1).isSome = true ∧
       (p.recordAt .outbound 0).isSome = true ∧ (p.recordAt .image 4).isSome = true ∧
       k2.val = 1 + 1 ∧ (p.peer k2).roll = some (rollOf 70000) ∧ (p.peer k9).roll = none) := by
  decide +kernel

/-- A frame that fails each of the four checks. -/
theorem test_witness_FailedFrameChecksAreAnsweredInOrder :
    station3.ready ∧ [0x01, 0x01, 0xFE].headD (0 : Byte) ≠ 0 ∧
    frameFault [0x01, 0x01, 0xFE] = some .badFrame ∧ frameFault [0x01, 0x00, 0x00] = some .badFrame ∧
    frameFault [0x04, 0x00, 0xFC] = some .unknownCommand ∧ frameFault [0x01, 0x01, 0x00, 0xFE] = some .badLength := by
  decide

/-- A request that fails admission, for the station state, a field, the day, the reservation and the image; another section
code. -/
theorem test_witness_AdmissionRefusalsChangeNothing :
    let lost : State := { station3 with time := { station3.time with timeLost := true } }
    station3.ready ∧ (inState .parked).ready ∧
    (inState .parked).admissionFault (.sell 0 1) = some .wrongState ∧ clerkRow (.sell 0 1) = some (.sell 0 1) ∧
    station3.admissionFault (.sell 0 0) = some .badParameter ∧
    station3.admissionFault (.sell 0 1000) = some .badParameter ∧ station3.admissionFault (.sell 0 999) = none ∧
    station3.admissionFault (.confirm 1 0 1) = some .tooLate ∧
    station3.admissionFault (.readAt 5 0) = some .notParked ∧ station3.admissionFault (.readAt 7 0) = some .badParameter ∧
    lost.admissionFault (.setDay 39 0) = some .dayBackward ∧ lost.admissionFault (.setDay 40 86399) = none ∧
    station3.admissionFault (.consign 3 0 1) = some .badParameter ∧
    supervisorRow true (.consign 3 0 1) = some (.consign true 3 0 1) ∧ (Request.consign 3 0 1).wellFormed = true ∧
    station3.admissionFault (.tariffOther 0 3 []) = some .wrongState ∧ (Request.tariffOther 0 3 []).wellFormed = true := by
  decide

/-- The longest IMPRINT that fits and a section code without a length. -/
theorem test_witness_RequestFramesReadBack :
    (Request.imprint (List.replicate 11 letter57)).wellFormed = true ∧
    (Request.tariffOther 0 3 (List.replicate 58 7)).wellFormed = true := by decide

/-- A ROLL that announces a committed station. -/
theorem test_witness_BranchFramesReadBack : ∀ c, Payload.roll (rollOf 5) = .roll c → c.state ≠ .unconfigured := by
  intro c h
  cases h
  decide

/-- A supervisor command with its key and without, a clerk command, and a TARIFF_CLASS that has only its frame. -/
theorem test_witness_SupervisorFramesActAsTheirRows :
    (Request.stockIn 0 5).wellFormed = true ∧ supervisorRow true (.stockIn 0 5) = some (.stockIn true 0 5) ∧
    (Request.sell 0 5).wellFormed = true ∧ clerkRow (.sell 0 5) = some (.sell 0 5) := by decide
theorem test_witness_SupervisorCommandsNeedTheKey :
    station3.ready ∧ (Request.park).wellFormed = true ∧ supervisorRow false .park = some (.park false) ∧
    (Request.tariffOther 0 3 []).wellFormed = true ∧ clerkRow (.tariffOther 0 3 []) = none := by decide

/-- One cent below L, L, H and one cent above H. -/
theorem test_witness_StandingFollowsCredit :
    station3.ctl.config.low.value < station3.ctl.config.high.value ∧ station3.acct.credit = 0 ∧
    (0 < (withCredit 19999).acct.credit ∧ (withCredit 19999).acct.credit < (withCredit 19999).ctl.config.low.value) ∧
    ((withCredit 20000).ctl.config.low.value ≤ (withCredit 20000).acct.credit ∧
      (withCredit 100000).acct.credit ≤ (withCredit 100000).ctl.config.high.value) ∧
    (withCredit 100001).ctl.config.high.value < (withCredit 100001).acct.credit := by decide

/-- A voucher that brings the committed credit to its cap exactly. -/
theorem test_witness_VoucherAccepted :
    let s := withCredit 4000
    let amount : BitVec 32 := 9995999
    s.ready ∧ s.ctl.state = .active ∧ amount.toNat ≤ 9999999 ∧ (7 : BitVec 16).toNat = s.ctl.config.branch.value ∧
    s.ctl.config.station.map (·.val) = some (3 : Byte).toNat ∧ (1 : BitVec 32).toNat = s.acct.lastSerial + 1 ∧
    s.acct.credit + s.acct.held + s.openOut + amount.toNat ≤ 9999999 ∧
    s.acct.loaded + s.acct.taken + s.acct.reclaimed + s.openOut + amount.toNat ≤ 2 ^ 48 - 1 ∧ s.spaceForEntry = true := by
  decide +kernel

/-- A voucher for each refusal of R18. -/
theorem test_witness_VoucherTestsInOrder :
    let s : State := { withCredit 4000 with acct := { (withCredit 4000).acct with lastSerial := 7 } }
    let test (s : State) (branch : BitVec 16) (serial amount : BitVec 32) (wrong : BitVec 32) :=
      s.voucherTest branch 3 serial amount (voucherCheck s.ctl.config.key branch 3 serial amount + wrong)
    s.ready ∧ s.ctl.state = .active ∧
    test s 7 8 5 1 = some .voucherCheck ∧ test s 8 8 5 0 = some .voucherCheck ∧ test s 7 7 5 0 = some .voucherDuplicate ∧
    test s 7 9 5 0 = some .voucherSequence ∧ test s 7 8 9996000 0 = some .creditCap ∧
    test (withEntries 240 s) 7 8 5 0 = some .journalFull := by decide +kernel

/-- A balanced account with value in CREDIT, HELD, GIVEN and an open record, and a step that moves some of it. -/
theorem test_witness_CreditBalanceIsKept :
    let s := withRecords [record2] (withTable [resv1] { station3 with
      acct := { Account.zero with credit := 600, loaded := 1000, given := 400 } })
    let t := { s with pending := [.confirm 1 0 1] }
    t.CreditBalances ∧ stepGives t (·.acct.used == 30) = true := by decide +kernel

/-- TARIFF_OPEN in ACTIVE. -/
theorem test_witness_TariffOpenEmptiesTheStagedBank : (withBank station3).ready ∧ (withBank station3).ctl.state = .active := by
  decide

/-- An OPEN bank; a head at its limits, and heads one past them. -/
theorem test_witness_SurchargeAndHeadPartsAreTaken :
    let s : State := { station3 with tariff := { station3.tariff with stagedState := .opened } }
    let passes (rounding bandCount : Byte) (fs : List (BitVec 24)) : Bool :=
      rounding.toNat ≤ 1 && 1 ≤ fs.length && fs.length ≤ 16 && fs.all (fun f => 32768 ≤ f.toNat && f.toNat ≤ 262144) &&
        1 ≤ bandCount.toNat && bandCount.toNat ≤ 12
    s.ready ∧ s.ctl.state = .active ∧ s.tariff.stagedState = .opened ∧
    passes 1 12 (List.replicate 16 262144) = true ∧ passes 0 1 [32768] = true ∧ passes 0 13 [32768] = false ∧
    passes 0 1 [262145] = false ∧ passes 2 1 [32768] = false ∧ passes 0 1 (List.replicate 17 32768) = false := by decide

/-- An assembly of two bands: one part completes it, one leaves it open, one does not rise. -/
theorem test_witness_BandPartFillsTheAssembly :
    let a : Assembly :=
      { cls := 2, rounding := .half, factors := [65536], services := 6, bandCount := 2, bands := [] }
    let s : State := { station3 with tariff := { station3.tariff with stagedState := .opened, assembly := some a } }
    let rises (bs : List BandFields) : Bool := decide ((lastUpper a.bands :: bs.map (·.upper.toNat)).Pairwise (· < ·))
    let first : BandFields := ⟨20, 85000, 0, 0⟩
    let last : BandFields := ⟨20000, 99999000, 20000, 9999000⟩
    s.ready ∧ s.ctl.state = .active ∧ s.tariff.stagedState = .opened ∧ s.tariff.assembly = some a ∧
    1 ≤ [first].length ∧ [first, last].length ≤ 4 ∧ a.bands.length + [first, last].length ≤ a.bandCount ∧
    a.bandCount ≤ 12 ∧ rises [first, last] = true ∧ rises [first] = true ∧ rises [first, first] = false := by decide

/-- A generation not above the active one; a close for tomorrow; a close for today. -/
theorem test_witness_TariffCloseMakesReadyOrSwitches :
    let s : State := { withBank station3 with tariff := { (withBank station3).tariff with stagedState := .opened } }
    s.ready ∧ s.ctl.state = .active ∧ s.tariff.stagedState = .opened ∧ (13 : Byte).toNat ≤ s.activeGeneration ∧
    s.activeGeneration < (14 : Byte).toNat ∧ s.time.day < (41 : BitVec 16).toNat ∧
    (40 : BitVec 16).toNat ≤ s.time.day := by decide

/-- The heaviest weight, the dearest band, the greatest factor; an item for each refusal and one that passes, at the edges of
each check; surcharges up to 99,999 cents and one cent above; a batch that is rated and one that is refused. -/
theorem test_witness_RatingArithmetic :
    let b : Band := { upper := 20000, base := 99999000, stepSize := 1, stepCharge := 9999000 }
    let c := bank13.content
    let i := letter57
    let dear (n : BitVec 16) : BankContent := { c with surcharges := #v[0, n, 65535, 0, 0, 0, 0, 0] }
    let both : Item := { i with weight := 20, zone := 0, services := 0b110 }
    (0 < 20000 ∧ b.base ≤ 99999000 ∧ b.stepSize ≤ 20000 ∧ b.stepCharge ≤ 9999000 ∧ 0 < b.stepSize ∧
      bandCharge 20000 0 b = 200079999000 ∧ zoneCharge 200079999000 262144 = 800319996000) ∧
    (8 ≤ ({ i with cls := 8 } : Item).cls.toNat ∧ c.classes[(3 : Fin 8)] = none ∧ (2 : Fin 8).val = i.cls.toNat ∧
      errorOf (rateItem c { i with weight := 101, zone := 4 }) = some .weightRange ∧
      errorOf (rateItem c { i with zone := 4, services := 1 }) = some .zoneRange ∧
      errorOf (rateItem c { i with services := 1 }) = some .serviceNotOffered ∧
      (rateItem c { i with weight := 100, zone := 3 }).toOption.isSome = true) ∧
    ((rateItem (dear 34379) both).toOption = some (2, 99999) ∧ errorOf (rateItem (dear 34380) both) = some .itemCap) ∧
    ((rateBatch c 0 [i, i]).toOption = some [(2, 504), (2, 504)] ∧
      errorOf (rateBatch c 0 [i, { i with zone := 4 }]) = some (.zoneRange, 1)) := by decide +kernel

/-- The last weight of a band and the first of the next. -/
theorem test_witness_FirstBandAtOrAboveIsSelected :
    let bands : List Band := [⟨20, 85000, 0, 0⟩, ⟨100, 125000, 20, 9500⟩]
    1 ≤ 20 ∧ 20 ≤ lastUpper bands ∧ 21 ≤ lastUpper bands ∧ 100 ≤ lastUpper bands := by decide

/-- A batch of total CREDIT exactly, in WINDOW and EXTENDED mode, with the next id in use. -/
theorem test_witness_GrantOpensReservation :
    let s := withBank (withTable [{ resv1 with id := 2 }] (withCredit 504))
    s.ready ∧ s.ctl.state = .active ∧ s.time.timeLost = false ∧ s.inspection ≠ .lapsed ∧
    s.tariff.active = some bank13 ∧ s.resv.table.length < 4 ∧ s.resv.nextId ∈ s.resv.table.map (·.id) ∧
    (rateBatch bank13.content 0 [letter57]).toOption = some [(2, 504)] ∧ batchTotal [(2, 504)] ≤ s.acct.credit ∧
    s.ctl.config.confirmMode ≠ .immediate := by decide +kernel

/-- The same batch in IMMEDIATE mode. -/
theorem test_witness_ImmediateGrantCharges :
    let s := (withBank (withCredit 504)).onCtl fun c => { c with config := { c.config with confirmMode := .immediate } }
    s.ready ∧ s.ctl.state = .active ∧ s.time.timeLost = false ∧ s.inspection ≠ .lapsed ∧
    s.tariff.active = some bank13 ∧ s.resv.table.length < 4 ∧
    (rateBatch bank13.content 0 [letter57]).toOption = some [(2, 504)] ∧ batchTotal [(2, 504)] ≤ s.acct.credit ∧
    s.ctl.config.confirmMode = .immediate ∧ (∀ c : Fin 8, s.resv.totals[c].count ≤ 4294967295) := by decide +kernel

/-- Each of the first five tests fails; an item fails rating; one cent is missing. -/
theorem test_witness_ImprintTestsInOrder :
    let s := withBank (withCredit 503)
    (inState .parking).ready ∧ (inState .parking).ctl.state ≠ .active ∧
    (s.onTime fun t => { t with timeLost := true }).time.timeLost = true ∧
    (s.onTime fun t => { t with inspection := 97 }).inspection = .lapsed ∧ station3.tariff.active = none ∧
    4 ≤ (withTable [resv1, { resv1 with id := 2 }, { resv1 with id := 3 }, { resv1 with id := 4 }] s).resv.table.length ∧
    s.ready ∧ s.ctl.state = .active ∧ s.inspection ≠ .lapsed ∧ s.tariff.active = some bank13 ∧
    errorOf (rateBatch bank13.content 0 [letter57, { letter57 with zone := 4 }]) = some (.zoneRange, 1) ∧
    (rateBatch bank13.content 0 [letter57]).toOption = some [(2, 504)] ∧ s.acct.credit < batchTotal [(2, 504)] := by
  decide +kernel

/-- A GRANTED item and a PRINTED one, in ACTIVE and in PARKING. -/
theorem test_witness_ConfirmClosesItem :
    let s := withTable [resv1] station3
    s.ready ∧ s.ctl.state ≠ .unconfigured ∧ (withTable [resv1] (inState .parking)).ctl.state ≠ .unconfigured ∧
    s.reservation (1 : Byte).toNat = some resv1 ∧ resv1.items[(0 : Byte).toNat]? = some ⟨2, 30, .granted⟩ ∧
    resv1.items[(1 : Byte).toNat]? = some ⟨2, 5, .printed⟩ := by decide

/-- A RUNNING reservation, in EXTENDED mode with PBUSY asserted and in WINDOW mode. -/
theorem test_witness_DeadlineExpiresOrWaits :
    let s := withTable [resv1] station3
    let x : State :=
      { (s.onCtl fun c => { c with config := { c.config with confirmMode := .extended } }) with pbusy := true }
    s.power = .on ∧ s.ctl.state ≠ .unconfigured ∧ s.reservation (1 : Byte).toNat = some resv1 ∧
    resv1.phase = .running ∧ (∀ c : Fin 8, s.resv.totals[c].count ≤ 4294967295) ∧
    s.ctl.config.confirmMode ≠ .extended ∧ x.ctl.config.confirmMode = .extended ∧ x.pbusy = true ∧
    x.reservation (1 : Byte).toNat = some resv1 ∧
    (∀ r ∈ s.resv.table, r.id = (2 : Byte).toNat → r.phase ≠ .running) ∧
    (∀ r ∈ (withTable [{ resv1 with phase := .waiting }] station3).resv.table,
      r.id = (1 : Byte).toNat → r.phase ≠ .running) := by decide

/-- A WAITING reservation beside a RUNNING one in EXTENDED mode; alone in PARKING; WINDOW mode. -/
theorem test_witness_HardLimitAndPbusyEndWaits :
    let w : Reservation := { resv1 with phase := .waiting }
    let extended (s : State) : State := s.onCtl fun c => { c with config := { c.config with confirmMode := .extended } }
    let s := extended (withTable [w, { resv1 with id := 2 }] station3)
    let p := extended (withTable [w] (inState .parking))
    s.power = .on ∧ s.ctl.state ≠ .unconfigured ∧ s.ctl.state ≠ .parking ∧ s.ctl.config.confirmMode = .extended ∧
    s.reservation (1 : Byte).toNat = some w ∧ w.phase = .waiting ∧ (s.resv.table.map (·.id)).Nodup ∧
    (∀ c : Fin 8, s.resv.totals[c].count ≤ 4294967295) ∧ station3.ctl.config.confirmMode ≠ .extended ∧
    p.power = .on ∧ p.ctl.state = .parking ∧ p.ctl.config.confirmMode = .extended ∧ (p.resv.table.map (·.id)).Nodup ∧
    p.resv.table ≠ [] ∧ stepGives { p with pending := [.pbusyReleased] } (·.ctl.state == .parked) = true ∧
    (∀ r ∈ s.resv.table, r.id = (2 : Byte).toNat → r.phase ≠ .waiting) ∧
    (∀ r ∈ s.resv.table, r.id = (3 : Byte).toNat → r.phase ≠ .waiting) := by
  decide +kernel

/-- The first absent denomination; one stamp too many; exactly the stamps on hand. -/
theorem test_witness_SellTakesStampsOrRefuses :
    let s := withStamps 998 station3
    s.ready ∧ s.ctl.state = .active ∧ (1 : BitVec 16).toNat = 1 ∧ s.ctl.config.denomCount.value ≤ (2 : Byte).toNat ∧
    (1 : Fin 16).val < s.ctl.config.denomCount.value ∧ s.stock[(0 : Fin 16)].onHand < (999 : BitVec 16).toNat ∧
    (998 : BitVec 16).toNat ≤ s.stock[(0 : Fin 16)].onHand := by decide

/-- The first absent denomination; past the bound by one; a full journal; up to the bound exactly. -/
theorem test_witness_StockInDeliversOrRefuses :
    let s := withStamps 535 station3
    s.ready ∧ s.ctl.state = .active ∧ s.ctl.config.denomCount.value ≤ (2 : Byte).toNat ∧
    (0 : Fin 16).val < s.ctl.config.denomCount.value ∧
    65535 < s.stock[(0 : Fin 16)].onHand + (65001 : BitVec 16).toNat + s.openStock 0 ∧
    s.stock[(0 : Fin 16)].onHand + (65000 : BitVec 16).toNat + s.openStock 0 ≤ 65535 ∧
    s.stockTotal 0 + (65000 : BitVec 16).toNat ≤ 4294967295 ∧ s.spaceForEntry = true ∧
    (withEntries 240 s).spaceForEntry = false := by decide +kernel

/-- The first absent denomination; a count past the bound with stock open; equal; above; below; a full journal. -/
theorem test_witness_CountSetsOnHandOrRefuses :
    let s := withStamps 535 station3
    let o := withRecords [{ record9 with body := .stock 0 6 85 }] s
    s.ready ∧ s.ctl.state = .active ∧ s.ctl.config.denomCount.value ≤ (2 : Byte).toNat ∧
    (0 : Fin 16).val < s.ctl.config.denomCount.value ∧
    (o.stock[(0 : Fin 16)].onHand < (65530 : BitVec 16).toNat ∧ 65535 < (65530 : BitVec 16).toNat + o.openStock 0) ∧
    (65529 : BitVec 16).toNat + o.openStock 0 ≤ 65535 ∧ (535 : BitVec 16).toNat = s.stock[(0 : Fin 16)].onHand ∧
    s.stock[(0 : Fin 16)].onHand < (536 : BitVec 16).toNat ∧ (534 : BitVec 16).toNat < s.stock[(0 : Fin 16)].onHand ∧
    s.spaceForEntry = true ∧ (withEntries 240 s).spaceForEntry = false := by decide +kernel

/-- A CONSIGN for each test of R78, and one that passes. -/
theorem test_witness_ConsignOpensAStockRecord :
    let s := withPeer2 (withStamps 20 station3)
    s.ready ∧ s.ctl.state = .active ∧ s.ctl.config.station ≠ some k2 ∧ s.ctl.config.denomCount.value ≤ (2 : Byte).toNat ∧
    (0 : Fin 16).val < s.ctl.config.denomCount.value ∧
    s.consignTest k9 0 6 = some .peerAbsent ∧ (withRecords [record2] s).consignTest k2 0 6 = some .peerBusy ∧
    s.consignTest k2 0 21 = some .stockShort ∧
    (s.onDenom 0 fun d => { d with received := 4294967290 }).consignTest k2 0 6 = some .stockCap ∧
    (withEntries 239 s).consignTest k2 0 6 = some .journalFull ∧ s.consignTest k2 0 20 = none := by decide +kernel

/-- A drawer with stamps on hand and stamps consigned, and a step that sells. -/
theorem test_witness_StockBalanceIsKept :
    let s := withRecords [{ record9 with body := .stock 0 6 85 }]
      (station3.onDenom 0 fun d => { d with onHand := 14, received := 20, outward := 6 })
    let t := { s with pending := [.sell 0 4] }
    t.StockBalances ∧ stepGives t (·.stock[(0 : Fin 16)].onHand == 10) = true := by
  decide +kernel

/-- A committed station with entries, and q in their midst; the occupancies and numbers on both sides of each bound. -/
theorem test_witness_AuditCloseRemovesEntriesUpTo :
    (withEntries 3 station3).ready ∧ (withEntries 3 (inState .parked)).ctl.state ≠ .unconfigured ∧
    ((withEntries 239 station3).spaceForEntry, (withEntries 240 station3).spaceForEntry) = (true, false) ∧
    ((withEntries 238 station3).spaceForGive, (withEntries 239 station3).spaceForGive) = (true, false) ∧
    (let s (n : Nat) : State := { station3 with journal := { entries := [], nextSeq := n } }
     ((s 4294967294).spaceForEntry, (s 4294967295).spaceForEntry) = (true, false) ∧
       ((s 4294967293).spaceForGive, (s 4294967294).spaceForGive) = (true, false)) := by decide +kernel

/-- A journal at its last free place, and a step that fills it. -/
theorem test_witness_JournalOrderAndSpaceAreKept :
    let s := { withEntries 239 station3 with pending := [.stockIn true 0 5] }
    s.JournalSound ∧ stepGives s (·.journal.entries.length == 240) = true := by decide +kernel

/-- A sorted queue; ALONE with another frame; a waiting ROLL; a last free place; a full queue with a higher and with a
lower last frame, with a ROLL placed on it, and with every frame in progress; the GIVE of an UNSETTLED record and another. -/
theorem test_witness_PlacementFollowsTheQueueRules :
    let q (n : Nat) : List TxEntry := List.replicate n (.fresh (.reply .got 2 1))
    let roll : Payload := .roll (rollOf 0)
    let r := withTx [.fresh (.reply .got 2 1), .fresh roll] station3
    let f := withTx (q 8) station3
    let busy := withTx ((q 8).map fun e => { e with inProgress := true }) station3
    ((r.line.tx.map (·.payload.kind)).Pairwise (· ≤ ·) ∧ (f.line.tx.map (·.payload.kind)).Pairwise (· ≤ ·) ∧
      (busy.line.tx.map (·.payload.kind)).Pairwise (· ≤ ·)) ∧
    ((alone station3).line.state = .alone ∧ (Payload.noneLeft 2).isRoll = false) ∧
    (r.line.tx = [.fresh (.reply .got 2 1)] ++ .fresh roll :: [] ∧ roll.isRoll = true ∧
      (TxEntry.fresh roll).inProgress = false ∧ (TxEntry.fresh (.reply .got 2 1)).payload.isRoll = false) ∧
    ((withTx (q 7) station3).line.state = .up ∧ (withTx (q 7) station3).line.tx.length < 8) ∧
    (f.line.tx = q 7 ++ .fresh (.reply .got 2 1) :: [] ∧ f.line.state = .up ∧ 8 ≤ f.line.tx.length ∧
      (Payload.give 2 1 (.credit 1)).kind < (Payload.reply .got 2 1).kind ∧
      ¬ (Payload.query 2 1).kind < (Payload.reply .got 2 1).kind) ∧
    (∀ y ∈ f.line.tx, y.payload.isRoll = true → y.inProgress = true) ∧ (∀ y ∈ busy.line.tx, y.inProgress = true) ∧
    (record2.givePayload = .give 2 5 (.credit 400) ∧ (2 : Byte).toNat = record2.receiver.val ∧
      record2.state = .unsettled ∧ (9 : Byte).toNat ≠ record2.receiver.val) := by decide +kernel

/-- A queue with nothing in progress, and one whose second frame is in progress, withdrawn or not. -/
theorem test_witness_AttemptsBeginAndLoseArbitration :
    let e : TxEntry := { payload := .query 2 1, attempts := 3, inProgress := true, cancelled := false }
    let s := withTx [.fresh (.reply .got 2 1), .fresh (.query 2 1)] station3
    let t := withTx [.fresh (.reply .got 2 1), e] station3
    s.power = .on ∧ s.ctl.state ≠ .unconfigured ∧ s.line.tx = .fresh (.reply .got 2 1) :: [.fresh (.query 2 1)] ∧
    (∀ y ∈ s.line.tx, y.inProgress = false) ∧ t.line.tx = [.fresh (.reply .got 2 1)] ++ e :: [] ∧ e.inProgress = true ∧
    (∀ y ∈ [TxEntry.fresh (.reply .got 2 1)], y.inProgress = false) := by decide

/-- A frame in progress: withdrawn; ALONE; fourteen attempts behind it; fifteen, with run count 6 and 7. -/
theorem test_witness_AttemptsEndAcknowledgedOrFailed :
    let e (n : Nat) (c : Bool) : TxEntry := { payload := .query 2 1, attempts := n, inProgress := true, cancelled := c }
    let s (n : Nat) (c : Bool) (run : Nat) := (withTx [e n c, .fresh (.query 9 1)] station3).onLine fun l =>
      { l with runCount := run }
    (s 0 true 0).power = .on ∧ (s 0 true 0).ctl.state ≠ .unconfigured ∧
    (s 0 true 0).line.tx = [] ++ e 0 true :: [.fresh (.query 9 1)] ∧ (e 0 true).inProgress = true ∧
    (e 0 true).cancelled = true ∧ (e 14 false).cancelled = false ∧ (alone (s 0 false 0)).line.state = .alone ∧
    (s 14 false 0).line.state = .up ∧ (e 14 false).attempts + 1 < 16 ∧ (e 15 false).attempts + 1 = 16 ∧
    (s 15 false 6).line.runCount < 7 ∧ (s 15 false 7).line.runCount = 7 := by decide

/-- Frames that test 1 refuses: kinds 0 and 13, sender 0, a byte too few, state codes 0 and 4, standing code 4; frames it
admits, at the edges; one with this station's own number; one that finds fifteen and one that finds sixteen places taken. -/
theorem test_witness_ArrivalIsJudgedInOrder :
    let rx (n : Nat) := station3.onLine fun l => { l with rx := List.replicate n ⟨k2, .call 5⟩ }
    let rollOf (state standing : Byte) : List Byte := [state, standing, 0, 0, 0, 5, 10, 1]
    station3.power = .on ∧ station3.ctl.state ≠ .unconfigured ∧
    ([(0x002, []), (0x0D2, rollOf 1 1), (0x0B0, [0, 0, 0, 5]), (0x0B2, [0, 0, 0]), (0x0C2, rollOf 0 1),
      (0x0C2, rollOf 4 1), (0x0C2, rollOf 1 4)].all fun (x : BitVec 11 × List Byte) => !frameAdmitted x.1 x.2) = true ∧
    ([(0x0B2, [0, 0, 0, 5]), (0x0BF, [0, 0, 0, 5]), (0x0C2, rollOf 0x81 0), (0x0C2, rollOf 3 3),
      (0x012, [3, 0, 1, 0x91, 0, 6, 0, 145]), (0x012, [3, 0, 1, 0x70, 0, 0, 1, 144])].all
        fun (x : BitVec 11 × List Byte) => frameAdmitted x.1 x.2) = true ∧
    parseFrame 0x0B3 [0, 0, 0, 5] = some ⟨k3, .call 5⟩ ∧ station3.ctl.config.station = some k3 ∧
    parseFrame 0x0B2 [0, 0, 0, 5] = some ⟨k2, .call 5⟩ ∧ station3.ctl.config.station ≠ some k2 ∧
    (rx 15).line.rx.length < 16 ∧ ¬ (rx 16).line.rx.length < 16 := by decide

/-- A frame at the front: a ROLL, a frame for this station with its block free and with it busy, a frame for another. -/
theorem test_witness_FrontFrameIsTaken :
    let s (p : Payload) := station3.onLine fun l => { l with rx := [⟨k2, p⟩] }
    (s (.roll (rollOf 0))).power = .on ∧ (s (.roll (rollOf 0))).ctl.state ≠ .unconfigured ∧
    (s (.roll (rollOf 0))).line.rx = ⟨k2, .roll (rollOf 0)⟩ :: [] ∧ (s (.noneLeft 3)).line.holding = none ∧
    ((s (.noneLeft 3)).ctl.config.station.map (·.val) = some ((Payload.noneLeft 3).data.headD 0).toNat ∧
      (s (.noneLeft 3)).line.handed .balancer = none ∧
      (handedBalancer (.noneLeft 3) (s (.noneLeft 3))).line.handed .balancer ≠ none) ∧
    ((s (.noneLeft 4)).ctl.config.station.map (·.val) ≠ some ((Payload.noneLeft 4).data.headD 0).toNat ∧
      (s (.call 5)).line.handed .offerer = none ∧ (handedOfferer (.call 6) (s (.call 5))).line.handed .offerer ≠ none) ∧
    (let held (h : Option Frame) := (handedBalancer (.noneLeft 3) station3).onLine fun l => { l with holding := h }
     ((held (some ⟨k9, .offer 3 5⟩)).frameTakenBy .balancer).line.toBalancer = some ⟨k9, .offer 3 5⟩ ∧
      ((held (some ⟨k9, .call 5⟩)).frameTakenBy .balancer).line.toBalancer = none ∧
      ((held none).frameTakenBy .balancer).line.toBalancer = none) := by decide

/-- A PRESENT peer one second short of its absence and at it; one without roll content. -/
theorem test_witness_SilenceRaisesAndAbsenceFollows :
    let s (n : Nat) := station3.onPeer k2 fun _ => { presence := .present, silence := n, roll := some (rollOf 0) }
    let u := station3.onPeer k9 fun _ => { presence := .present, silence := 180, roll := none }
    station3.power = .on ∧ station3.ctl.state ≠ .unconfigured ∧ ((s 29).peer k2).presence = .present ∧
    ¬ 3 * ((((s 29).peer k2).roll.map (·.period.toNat)).getD 60) ≤ ((s 29).peer k2).silence ∧
    3 * ((((s 30).peer k2).roll.map (·.period.toNat)).getD 60) ≤ ((s 30).peer k2).silence ∧
    3 * (((u.peer k9).roll.map (·.period.toNat)).getD 60) ≤ (u.peer k9).silence := by decide

/-- A committed station, its line UP and its queue empty, with a STRANDED record to a PRESENT peer: a backoff wait of 2, of 1
with a call to start, and PARKED. -/
theorem test_witness_RollTickAnnouncesAndPaces :
    let r : OutRecord := { record2 with state := .stranded, wait := .stopped }
    let s (st : StationState) (wait : Nat) := (withRecords [r] (withPeer2 (inState st))).onBal fun b =>
      { b with backoffWait := wait }
    let meets (u : State) : Bool := decide (u.power = .on ∧ u.ctl.state ≠ .unconfigured ∧ u.ctl.config.station = some k3 ∧
      (u.peer k3).presence = .self ∧ (u.settle.records.map (·.receiver)).Nodup ∧ u.line.state = .up ∧ u.line.tx = [] ∧
      u.settle.records.length ≤ 4)
    let u := s .active 1
    (meets (s .active 2) = true ∧ meets u = true ∧ meets (s .parked 1) = true) ∧
    (u.bal.caller = .idle ∧ u.ctl.state = .active ∧ u.standing.short = true ∧ u.bal.backoffWait ≤ 1 ∧
      u.spaceForEntry = true ∧ u.minTransfer ≤ u.target - u.acct.credit ∧ (u.peer k2).presence = .present ∧
      (u.peer k2).roll = some (rollOf 70000) ∧ (rollOf 70000).state = .active ∧ (rollOf 70000).standing = .surplus ∧
      (rollOf 70000).canGive = true) ∧
    (¬ (s .active 2).bal.backoffWait ≤ 1 ∧ (s .parked 1).ctl.state ≠ .active) ∧
    stepGives { u with pending := [.rollTick .rollBalancerSettlement] } (fun t => t.line.tx.map (·.payload.kind) == [7, 11, 12]) =
      true ∧
    (let a := withTx [.fresh (.query 9 1)] (alone u)
     a.power = .on ∧ a.ctl.config.station = some k3 ∧ (a.peer k3).presence = .self ∧ a.line.state = .alone ∧
      a.line.queueDrops ≤ 65535 ∧ r.state = .stranded ∧ (a.peer r.receiver).presence = .present ∧
      stepGives { a with pending := [.rollTick .settlementRollBalancer] } (fun t =>
        t.line.tx.map (·.payload.kind) == [7, 12] && t.line.queueDrops == a.line.queueDrops + 1) = true) := by
  decide +kernel

/-- A full queue with a frame in progress at its last attempt before a drop, and the step that drops it. -/
theorem test_witness_LineRulesAreKept :
    let e : TxEntry := { payload := .query 2 1, attempts := 15, inProgress := true, cancelled := false }
    let s := { (withTx (e :: List.replicate 7 (.fresh (.query 9 1))) station3) with pending := [.attemptFailed] }
    s.LineSound ∧ stepGives s (·.line.attemptDrops == 1) = true := by decide +kernel

/-- A wake taken with CREDIT 0 and a peer in SURPLUS, and one taken with no such peer. -/
theorem test_witness_WakeStartsACallOrNot :
    let s := (withPeer2 station3).onBal fun b => { b with wakes := 1 }
    let n := station3.onBal fun b => { b with wakes := 1 }
    s.power = .on ∧ s.ctl.state = .active ∧ 0 < s.bal.wakes ∧ s.bal.caller = .idle ∧ s.standing.short = true ∧
    s.bal.backoffWait = 0 ∧ s.spaceForEntry = true ∧ s.line.state = .up ∧ s.minTransfer ≤ s.target - s.acct.credit ∧
    (s.peer k2).presence = .present ∧ (s.peer k2).roll = some (rollOf 70000) ∧ (rollOf 70000).state = .active ∧
    (rollOf 70000).standing = .surplus ∧ (rollOf 70000).canGive = true ∧ 0 < n.bal.wakes ∧ n.mayCall = false ∧
    (∀ st ∈ [StationState.parking, .parked],
      let w : State := s.onCtl fun c => { c with state := st }
      w.power = .on ∧ w.ctl.state ≠ .unconfigured ∧ 0 < w.bal.wakes ∧ w.ctl.state ≠ .active) := by
  decide +kernel

/-- A window that ends without an offer, with two equal offers, and with a need below M; a take wait that ends. -/
theorem test_witness_WindowPicksAndTakeWaitEnds :
    let calling (os : List (Station × Nat)) (c : Nat) :=
      (withCredit c).onBal fun b => { b with caller := .calling, offers := os, offerWindow := .running 0 }
    let os : List (Station × Nat) := [(k9, 5000), (k2, 5000), (k9, 4000)]
    let s := calling os 49000
    s.power = .on ∧ s.ctl.state ≠ .unconfigured ∧ s.bal.caller = .calling ∧ (calling [] 0).bal.offers = [] ∧
    (k2, 5000) ∈ s.bal.offers ∧
    (∀ q ∈ s.bal.offers, q.2 < (k2, 5000).2 ∨ (q.2 = (k2, 5000).2 ∧ (k2, 5000).1.val ≤ q.1.val)) ∧
    s.minTransfer ≤ s.target - s.acct.credit ∧
    (calling os 49001).target - (calling os 49001).acct.credit < (calling os 49001).minTransfer ∧
    (station3.onBal fun b => { b with caller := .taking k2 5000 }).bal.caller = .taking k2 5000 ∧
    station3.bal.caller = .idle := by decide

/-- A CALL taken with a spare of M and with one of a cent less. -/
theorem test_witness_CallIsOfferedTheSpare :
    let s (c need : Nat) : State := handedOfferer (.call (BitVec.ofNat 32 need)) (withCredit c)
    (s 120000 5000).power = .on ∧ (s 120000 5000).ctl.state = .active ∧
    (s 120000 5000).line.toOfferer = some { sender := k2, payload := .call (BitVec.ofNat 32 5000) } ∧
    (s 120000 1000).mayOffer k2 1000 = true ∧ (s 120000 999).mayOffer k2 999 = false ∧
    (s 100000 5000).mayOffer k2 5000 = false := by decide

/-- A TAKE that passes, one that finds a record open, one that would pass the ascending total. -/
theorem test_witness_TakeIsGivenOrAnsweredNone :
    let s : State := handedOfferer (.take 3 5000) (withCredit 51000)
    let above : State := { s with acct := { s.acct with loaded := 2 ^ 48 - 1 } }
    let g := min (5000 : BitVec 32).toNat (s.acct.credit - s.target)
    s.power = .on ∧ s.ctl.state = .active ∧ s.line.toOfferer = some { sender := k2, payload := .take 3 5000 } ∧
    k2 ∉ s.settle.records.map (·.receiver) ∧ s.settle.records.length < 4 ∧ s.minTransfer ≤ g ∧ s.spaceForGive = true ∧
    s.acct.loaded + s.acct.taken + s.acct.reclaimed + s.openOut + g ≤ 2 ^ 48 - 1 ∧
    ¬ above.acct.loaded + above.acct.taken + above.acct.reclaimed + above.openOut + g ≤ 2 ^ 48 - 1 ∧
    k2 ∈ (withRecords [record2] s).settle.records.map (·.receiver) := by decide +kernel

/-- An OFFER taken while CALLING and while IDLE; a NONE from the chosen station and from another. -/
theorem test_witness_OfferAndNoneReachTheCaller :
    let o := handedBalancer (.offer 3 5000) station3
    let n := handedBalancer (.noneLeft 3) station3
    let caller (c : Caller) (s : State) := s.onBal fun b => { b with caller := c }
    o.power = .on ∧ o.ctl.state ≠ .unconfigured ∧
    o.line.toBalancer = some { sender := k2, payload := .offer 3 5000 } ∧ (caller .calling o).bal.caller = .calling ∧
    o.bal.caller ≠ .calling ∧ n.line.toBalancer = some { sender := k2, payload := .noneLeft 3 } ∧
    (caller (.taking k2 9) n).bal.caller = .taking k2 9 ∧ n.bal.caller = .idle := by decide

/-- A record after its third send and one after its fourth, in ACTIVE and in PARKING. -/
theorem test_witness_AnswerWaitResendsOrStrands :
    let s := withRecords [{ record2 with sends := 3 }, record9] station3
    let p := withRecords [record9] (inState .parking)
    s.power = .on ∧ s.ctl.state ≠ .unconfigured ∧ p.ctl.state ≠ .unconfigured ∧
    s.settle.records = [] ++ { record2 with sends := 3 } :: [record9] ∧ (s.settle.records.map (·.receiver)).Nodup ∧
    record2.state = .unsettled ∧ record2.wait ≠ .stopped ∧ 3 < 4 ∧ p.settle.records = [] ++ record9 :: [] ∧
    record9.state = .unsettled ∧ record9.wait ≠ .stopped ∧ 4 ≤ record9.sends := by decide

/-- A GIVE of each case of R148, and each outcome of a credit and of a stock receipt. -/
theorem test_witness_IncomingGiveIsJudgedInOrder :
    let s (b : GiveBody) := handedSettlement (.give 3 5 b) (withStamps 535 (withCredit 4000))
    let entry (n : BitVec 16) (s : State) := s.setReceipt k2 n .received
    let c := s (.credit 9995999)
    c.power = .on ∧ c.ctl.state ≠ .unconfigured ∧
    c.line.toSettlement = some { sender := k2, payload := .give 3 5 (.credit 9995999) } ∧
    (entry 6 c).receipt k2 = some ⟨6, .received⟩ ∧ 32768 ≤ ((5 : BitVec 16) - 6).toNat ∧
    (entry 5 c).receipt k2 = some ⟨5, .received⟩ ∧
    (1 ≤ ((5 : BitVec 16) - 32774).toNat ∧ ((5 : BitVec 16) - 32774).toNat ≤ 32767) ∧ c.receipt k2 = none ∧
    (withEntries 240 c).spaceForEntry = false ∧ c.ctl.state ≠ .parked ∧ c.spaceForEntry = true ∧
    (¬ 9999999 < c.acct.credit + 9995999 + c.acct.held + c.openOut ∧
      9999999 < c.acct.credit + 9996000 + c.acct.held + c.openOut) ∧
    (c.ctl.config.denomCount.value ≤ (2 : BitVec 4).toNat ∧ (0 : Fin 16).val < c.ctl.config.denomCount.value) ∧
    (c.face 0 = (85 : BitVec 16).toNat ∧ c.face 0 ≠ (86 : BitVec 16).toNat) ∧
    (c.stock[(0 : Fin 16)].onHand + c.openStock 0 + 65000 ≤ 65535 ∧
      65535 < c.stock[(0 : Fin 16)].onHand + c.openStock 0 + 65001 ∧ c.stockTotal 0 + 65000 ≤ 4294967295) := by
  decide +kernel

/-- An answer that matches a credit record, one that matches a stock record, one that matches none, one while PARKED. -/
theorem test_witness_AnswersSettleOrRestore :
    let s := withRecords [record9, record2] station3
    let a (n : BitVec 16) (s : State) := handedSettlement (.reply .void 3 n) s
    (a 5 s).power = .on ∧ (a 5 s).ctl.state ≠ .unconfigured ∧
    (a 5 s).line.toSettlement = some { sender := k2, payload := .reply .void 3 5 } ∧
    (ReplyKind.void, Instr.voidFrame) ∈
      [(ReplyKind.got, Instr.gotFrame), (.haveIt, .haveFrame), (.void, .voidFrame), (.nohave, .nohaveFrame)] ∧
    s.ctl.state ≠ .parked ∧ s.settle.records = [record9] ++ record2 :: [] ∧ s.settle.records = [] ++ record9 :: [record2] ∧
    (s.settle.records.map (·.receiver)).Nodup ∧ record2.receiver = k2 ∧ record2.serial = 5 ∧ record9.receiver = k9 ∧
    (∀ r ∈ s.settle.records, r.receiver = k2 → r.serial ≠ 4) ∧ (inState .parked).ctl.state = .parked := by decide

/-- A DEFER of an UNSETTLED and of a STRANDED record; a QUERY of an older, an equal and a newer serial. -/
theorem test_witness_DeferStrandsAndQueryIsAnswered :
    let stranded : OutRecord := { record2 with state := .stranded, wait := .stopped }
    let s (r : OutRecord) := handedSettlement (.reply .defer 3 5) (withRecords [r] station3)
    let q := handedSettlement (.query 3 5) station3
    (s record2).power = .on ∧ (s record2).ctl.state ≠ .unconfigured ∧
    (s record2).settle.records = [] ++ record2 :: [] ∧ ((s record2).settle.records.map (·.receiver)).Nodup ∧
    (s record2).line.toSettlement = some { sender := record2.receiver, payload := .reply .defer 3 record2.serial } ∧
    (s stranded).settle.records = [] ++ stranded :: [] ∧ record2.state = .unsettled ∧ stranded.state = .stranded ∧
    q.line.toSettlement = some { sender := k2, payload := .query 3 5 } ∧ q.receipt k2 = none ∧
    (q.setReceipt k2 6 .voided).receipt k2 = some ⟨6, .voided⟩ ∧ 32768 ≤ ((5 : BitVec 16) - 6).toNat ∧
    (q.setReceipt k2 5 .voided).receipt k2 = some ⟨5, .voided⟩ ∧ record2.receiver = k2 ∧
    (handedSettlement (.reply .defer 3 (record2.serial + 1)) (withRecords [record2] station3)).line.toSettlement =
      some { sender := k2, payload := .reply .defer 3 (record2.serial + 1) } := by decide

/-- PARK with work open, with none, and in PARKED; a notice in PARKING with work open and with none. -/
theorem test_witness_ParkAndResumeActByState :
    let working := withTable [resv1] station3
    working.ready ∧ working.ctl.state = .active ∧ working.resv.table ≠ [] ∧ station3.ready ∧ station3.resv.table = [] ∧
    (∀ r ∈ station3.settle.records, r.state = .stranded) ∧ (inState .parked).ready ∧
    (inState .parked).ctl.state ≠ .unconfigured ∧ (inState .parking).ctl.state = .parking ∧
    (inState .parking).resv.table = [] ∧ (∀ r ∈ (inState .parking).settle.records, r.state = .stranded) ∧
    (withTable [resv1] (inState .parking)).resv.table ≠ [] := by decide

/-- TIME_LOST, with a day equal to the last recorded one, and the day that brings the inspection count to N; the day running,
with a READY bank whose day comes. -/
theorem test_witness_DaysAreSetAndAdvance :
    let s := station3.onTime fun t => { t with timeLost := true, inspection := 89 }
    let b : State := { withBank station3 with
      tariff := { (withBank station3).tariff with stagedState := .ready, stagedGeneration := 14, effectiveDay := 41 } }
    s.power = .on ∧ s.ctl.state ≠ .unconfigured ∧ s.host.rdy = true ∧ (86399 : BitVec 32).toNat ≤ 86399 ∧
    s.time.timeLost = true ∧ s.time.lastRecorded ≤ (40 : BitVec 16).toNat ∧
    s.time.inspection + ((41 : BitVec 16).toNat - s.time.lastRecorded) = s.ctl.config.inspectDays.value ∧
    b.time.timeLost = false ∧ b.time.valid = true ∧ b.tariff.dueOn (b.time.day + 1) = true := by decide

/-- Both ends of every refused range and past them; an item that holds a value and one that holds none; a commit that fails
each test, and one that passes. -/
theorem test_witness_ConfigurationIsSetAndCommitted :
    let s (c : ConfigStore) : State := { State.reset with ctl := { State.reset.ctl with config := c } }
    (s config3).ready ∧ (s config3).ctl.state = .unconfigured ∧ (15 : BitVec 64).toNat = (⟨15, by decide⟩ : Station).val ∧
    ([(0, 0), (0, 16), (1, 65536), (3, 10000000), (4, 10000000), (5, 10000000), (8, 3), (12, 65536), (13, 17), (14, 0),
      (14, 65536)].all fun (x : Nat × Nat) => outsideRange x.1 x.2) = true ∧
    ([(0, 1), (0, 15), (1, 65535), (2, 2 ^ 64 - 1), (3, 9999999), (5, 0), (6, 0), (8, 2), (12, 65535), (13, 16), (14, 1),
      (14, 65535)].all fun (x : Nat × Nat) => !outsideRange x.1 x.2) = true ∧
    (config3.listed[0]? = some (true, some 3) ∧ ConfigStore.initial.listed[0]? = some (false, none) ∧
      config3.listed[15]? = some (true, some 145) ∧ itemCode 15 = 14 ∧ itemIndex 15 = 1 ∧ config3.listed.length = 30) ∧
    [ConfirmMode.immediate, .window, .extended][(2 : BitVec 64).toNat]? = some .extended ∧
    ConfigStore.initial.commitTest = some 0 ∧ { config3 with day := none }.commitTest = some 12 ∧
    { config3 with low := .written 50000 }.commitTest = some 3 ∧
    { config3 with high := .written 50000 }.commitTest = some 5 ∧
    { config3 with denomCount := .written 3 }.commitTest = some 14 ∧
    config3.station = some k3 ∧ config3.day = some 40 ∧ config3.low.value < config3.target.value ∧
    config3.target.value < config3.high.value ∧
    (∀ i : Fin 16, i.val < config3.denomCount.value → config3.faces[i] ≠ none) := by decide +kernel

/-- RESETN and a power-on reset of a station with a reservation open: with the mark lost, with days to catch up, and with a
hold that ends at midnight and one that ends a millisecond before it. -/
theorem test_witness_ResetsKeepValueAndRebuildTheRest :
    let s := withTable [resv1] (withRecords [record2] (inState .parking))
    let lost : State := { s with power := .off, time := { s.time with valid := false } }
    let late := s.onTime fun t => { t with day := 42 }
    let due := s.onTime fun t => { t with seconds := 86399, inspection := 89 }
    let after (ms : Nat) : State := (due.onTime (Timebase.countOn ms)).catchUp
    (s.power = .on ∧ s.ctl.state ≠ .unconfigured ∧ s.ctl.state = .parking) ∧
    s.acct.held = (s.resv.table.map Reservation.grantedValue).sum ∧ (s.resv.table.map (·.id)).Nodup ∧
    (∀ d : Fin 8, s.resv.totals[d].count ≤ 4294967295) ∧ lost.time.valid = false ∧ late.time.valid = true ∧
    late.time.timeLost = false ∧ late.time.lastRecorded < late.time.day ∧
    due.dayRuns = true ∧ ((after 999).time.day, (after 999).time.inspection) = (40, 89) ∧
    ((after 1000).time.day, (after 1000).time.inspection, (after 1000).time.lastRecorded) = (41, 90, 41) ∧
    (after 1000).host.alerts.inspectionDue = true := by decide +kernel

/-- Main power on, and off with the day running; a request and an event without power; an event while UNCONFIGURED. -/
theorem test_witness_SuppliesAndCommitGateTheBlocks :
    let off : State := { station3 with power := .off }
    station3.power = .on ∧ off.power = .off ∧ off.ctl.state ≠ .unconfigured ∧ off.time.timeLost = false ∧
    off.time.valid = true ∧ actsUnpowered (.sell 0 1) = false ∧ actsUnpowered .attempt = false ∧
    State.reset.ctl.state = .unconfigured ∧ blockEvent .attempt = true ∧ State.reset.resv.table = [] ∧
    State.reset.settle.records = [] ∧ State.reset.tariff = TariffStore.initial ∧ State.reset.time = Timebase.held ∧
    State.reset.power = .on ∧ State.reset.time.valid = true := by decide

/-- A PARKING station whose last reservation is about to expire, and the step that parks it. -/
theorem test_witness_ParkImageStaysTrue :
    let s := { withTable [resv1] (inState .parking) with pending := [.deadline 1] }
    s.ParkSound ∧ stepGives s (·.ctl.state == .parked) = true := by
  exact ⟨⟨by decide, fun h => absurd h (by decide), by decide, by decide⟩, by decide +kernel⟩

end Sys2Proof.Tests
end

section
/-! PROOFS. The tariff store and stage 2 of rating (R27, R40). -/

namespace Sys2Proof.Machine

/-! ### What the gates and the one-byte field answer -/

/-- A supervisor command taken with SUPV asserted runs (R182). -/
@[simp] theorem supervised_true (run : State → State × Answer) : supervised true run = run := rfl

/-- A command of an ACTIVE station runs. -/
theorem whenActive_of_active {s : State} (h : s.ctl.state = .active) (run : State → State × Answer) :
    whenActive run s = run s := if_pos h

/-- A field of one byte is the number's low eight bits. -/
@[simp] theorem beBytes_one (n : Nat) : beBytes 1 n = [BitVec.ofNat 8 n] := by
  rw [beBytes, beBytes, Nat.pow_zero, Nat.div_one]

/-! ### TARIFF_OPEN -/

/-- The row TARIFF_OPEN has the meaning of its block. -/
theorem exec_tariffOpen (supv : Bool) (s : State) : exec (.tariffOpen supv) s = execTariffOpen supv s := rfl

/-- TARIFF_OPEN gives the whole tariff store but the active bank, and reports OPEN with the active generation (R27). -/
theorem tariffOpenRequest_eq (s : State) :
    tariffOpenRequest s =
      ({ s with tariff := { active := s.tariff.active, stagedState := .opened, staged := BankContent.empty,
                            stagedGeneration := 0, effectiveDay := 0, assembly := none } },
        .result .ok [1, BitVec.ofNat 8 s.activeGeneration]) := by
  have hgen (f : TariffStore → TariffStore) (hf : (f s.tariff).active = s.tariff.active) :
      (s.onTariff f).activeGeneration = s.activeGeneration := by
    simp only [State.activeGeneration, State.onTariff_tariff, hf]
  simp only [tariffOpenRequest, beBytes_one]
  rw [hgen _ rfl]
  rfl

/-! ### Stage 2 of rating -/

/-- The first of two bands or more does not count for the last upper weight. -/
theorem lastUpper_cons_cons (a b : Band) (bs : List Band) : lastUpper (a :: b :: bs) = lastUpper (b :: bs) := by
  rw [lastUpper, List.getLast?_cons_cons, lastUpper]

/-- Bands that all lie under a positive weight end under it. -/
theorem lastUpper_lt {w : Nat} {bs : List Band} (hw : 0 < w) (hbs : ∀ x ∈ bs, x.upper < w) : lastUpper bs < w := by
  unfold lastUpper
  split
  next b hlast => exact hbs b (List.mem_of_getLast? hlast)
  next => exact hw

/-- Stage 2 goes on from a band that lies under the weight with its upper weight as the lower bound (R40). -/
theorem bandFor_cons_of_lt {w : Nat} {b : Band} (h : b.upper < w) (lo : Nat) (bs : List Band) :
    bandFor w lo (b :: bs) = bandFor w b.upper bs := by
  rw [bandFor, if_neg (Nat.not_le.2 h)]

/-- Stage 2, past a band, passes over the bands that lie under the weight and carries the last upper weight on. -/
theorem bandFor_upper_append_of_lt {w : Nat} {before : List Band} (h : ∀ x ∈ before, x.upper < w) (b : Band)
    (rest : List Band) :
    bandFor w b.upper (before ++ rest) = bandFor w (lastUpper (b :: before)) rest := by
  induction before generalizing b with
  | nil => rfl
  | cons x xs ih =>
    obtain ⟨hx, hxs⟩ := List.forall_mem_cons.1 h
    calc bandFor w b.upper (x :: (xs ++ rest))
        = bandFor w x.upper (xs ++ rest) := bandFor_cons_of_lt hx _ _
      _ = bandFor w (lastUpper (x :: xs)) rest := ih hxs x
      _ = bandFor w (lastUpper (b :: x :: xs)) rest := by rw [lastUpper_cons_cons]

/-- Stage 2 passes over the bands that lie under the weight, and carries the last one's upper weight on (R40). -/
theorem bandFor_append_of_lt {w : Nat} {before : List Band} (h : ∀ x ∈ before, x.upper < w) (rest : List Band) :
    bandFor w 0 (before ++ rest) = bandFor w (lastUpper before) rest := by
  cases before with
  | nil => rfl
  | cons x xs =>
    obtain ⟨hx, hxs⟩ := List.forall_mem_cons.1 h
    rw [List.cons_append, bandFor_cons_of_lt hx, bandFor_upper_append_of_lt hxs]

/-- The band after those under the weight, if it reaches the weight, is the one selected (R40). -/
theorem bandFor_eq_first {w : Nat} {before : List Band} {b : Band} (h : ∀ x ∈ before, x.upper < w)
    (hb : w ≤ b.upper) (after : List Band) :
    bandFor w 0 (before ++ b :: after) = some (lastUpper before, b) := by
  rw [bandFor_append_of_lt h, bandFor, if_pos hb]

/-- A weight that stage 1 admits splits the bands at the first one that reaches it (R39, R40). -/
theorem exists_first_band {w : Nat} {bands : List Band} (hw : 0 < w) (hlast : w ≤ lastUpper bands) :
    ∃ before b after, bands = before ++ b :: after ∧ (∀ x ∈ before, x.upper < w) ∧ w ≤ b.upper := by
  cases hfind : bands.find? (fun x => decide (w ≤ x.upper)) with
  | none =>
    have hall : ∀ x ∈ bands, x.upper < w := fun x hx =>
      Nat.not_le.1 fun hle => List.find?_eq_none.1 hfind x hx (decide_eq_true hle)
    exact absurd (lastUpper_lt hw hall) (Nat.not_lt.2 hlast)
  | some b =>
    obtain ⟨hb, before, after, hsplit, hbefore⟩ := List.find?_eq_some_iff_append.1 hfind
    have hunder : ∀ x ∈ before, x.upper < w := fun x hx =>
      Nat.not_le.1 fun hle => absurd (hbefore x hx) (by rw [decide_eq_true hle]; decide)
    exact ⟨before, b, after, hsplit, hunder, of_decide_eq_true hb⟩

/-! ### The statements -/

/-- Settles O23: split at the first band that reaches the weight, and walk over those before it. -/
theorem firstBandAtOrAboveIsSelected : Obligations.FirstBandAtOrAboveIsSelected := by
  intro w bands hw hlast
  obtain ⟨before, b, after, rfl, hbefore, hb⟩ := exists_first_band hw hlast
  exact ⟨before, b, after, rfl, hbefore, hb, bandFor_eq_first hbefore hb after, lastUpper_lt hw hbefore⟩

/-- Settles O18: the request is taken, both gates are open, and the block's work is `tariffOpenRequest_eq`. -/
theorem tariffOpenEmptiesTheStagedBank : Obligations.TariffOpenEmptiesTheStagedBank := by
  intro s hready hactive
  have hfits : Request.tariffOpen.paramCount ≤ 60 := Nat.zero_le _
  rw [exec_tariffOpen, execTariffOpen, hostRequest_ready hready hfits, supervised_true,
    whenActive_of_active (by exact hactive), tariffOpenRequest_eq]
  rfl

end Sys2Proof.Machine
end

section
/-! PROOFS. The stock unit: SELL (R68, R72 to R74). -/

namespace Sys2Proof.Machine

/-! ### The denominations that exist -/

/-- An index at or above DENOM_COUNT names no denomination (R68). -/
theorem State.denomAt_of_absent {s : State} {i : Nat} (h : s.ctl.config.denomCount.value ≤ i) : s.denomAt i = none := by
  unfold State.denomAt
  split
  · exact if_neg (Nat.not_lt.2 h)
  · rfl

/-- An index below DENOM_COUNT names its denomination (R68). -/
theorem State.denomAt_of_exists {s : State} {d : Fin 16} (h : d.val < s.ctl.config.denomCount.value) :
    s.denomAt d.val = some d := by
  rw [State.denomAt, dif_pos d.isLt, if_pos h]

/-! ### What the block answers to a count in range -/

section
variable {denom : Byte} {count : BitVec 16} {s : State} (hcount : 1 ≤ count.toNat ∧ count.toNat ≤ 999)
include hcount

/-- The first test of R73: without the denomination nothing is sold, and the values reported are 0 (R74). -/
theorem sellRequest_absent (hdenom : s.denomAt denom.toNat = none) :
    sellRequest denom count s = (s, .result .denomAbsent (sellData denom count 0 0)) := by
  rw [sellRequest, if_neg (not_not_intro hcount), hdenom]

variable {d : Fin 16} (hdenom : s.denomAt denom.toNat = some d)
include hdenom

/-- The second test of R73: with fewer stamps than asked for nothing is sold, and ON_HAND is reported (R74). -/
theorem sellRequest_short (hshort : s.stock[d].onHand < count.toNat) :
    sellRequest denom count s = (s, .result .stockShort (sellData denom count s.stock[d].onHand 0)) := by
  simp only [sellRequest, if_neg (not_not_intro hcount), hdenom, if_pos hshort]

/-- Both tests of R73 pass: the count moves from ON_HAND into SOLD, and the new ON_HAND is reported with the sale
value (R74). -/
theorem sellRequest_sold (henough : count.toNat ≤ s.stock[d].onHand) :
    sellRequest denom count s =
      (s.onDenom d fun x => { x with onHand := x.onHand - count.toNat, sold := x.sold + count.toNat },
        .result .ok (sellData denom count (s.stock[d].onHand - count.toNat) (count.toNat * s.face d))) := by
  have hnew (f : Denom → Denom) : (s.onDenom d f).stock[d] = f s.stock[d] := Vector.getElem_set_self d.isLt
  simp only [sellRequest, if_neg (not_not_intro hcount), hdenom, if_neg (Nat.not_lt.2 henough), hnew]

end

/-! ### The taken request -/

/-- SELL neither reads nor changes the host port. -/
theorem sellRequest_onHost (denom : Byte) (count : BitVec 16) (f : HostPort → HostPort) (s : State) :
    sellRequest denom count (s.onHost f) =
      ((sellRequest denom count s).1.onHost f, (sellRequest denom count s).2) := by
  by_cases hcount : 1 ≤ count.toNat ∧ count.toNat ≤ 999
  case neg => simp only [sellRequest, if_pos hcount, refuse]
  case pos =>
    cases hdenom : s.denomAt denom.toNat with
    | none => rw [sellRequest_absent hcount hdenom, sellRequest_absent hcount (by exact hdenom)]
    | some d =>
      by_cases hshort : s.stock[d].onHand < count.toNat
      case pos =>
        rw [sellRequest_short hcount hdenom hshort, sellRequest_short hcount (by exact hdenom) (by exact hshort)]
        rfl
      case neg =>
        have henough := Nat.not_lt.1 hshort
        rw [sellRequest_sold hcount hdenom henough, sellRequest_sold hcount (by exact hdenom) (by exact henough)]
        rfl

/-- A SELL that an ACTIVE station takes does what its block answers, and leaves the request with that answer in the
host port (R72, R179). -/
theorem exec_sell_taken {s : State} (hready : s.ready) (hactive : s.ctl.state = .active) (denom : Byte)
    (count : BitVec 16) :
    exec (.sell denom count) s = .next { (sellRequest denom count s).1 with
      host := (sellRequest denom count s).1.host.took (.sell denom count) none (sellRequest denom count s).2 } := by
  have hexec : exec (.sell denom count) s = execSell denom count s := rfl
  have hfits : (Request.sell denom count).paramCount ≤ 60 := (by decide : 3 ≤ 60)
  rw [hexec, execSell, hostRequest_ready hready hfits, whenActive_of_active (by exact hactive)]
  exact congrArg (Host.Outcome.next ∘ State.answered) (sellRequest_onHost denom count (fun h =>
    { h with request := requestFrame (.sell denom count), response := none, overrun := false, rdy := false }) s)

/-! ### The statement -/

/-- Settles O30: the request is taken, and the two tests of R73 choose among the block's three answers. -/
theorem sellTakesStampsOrRefuses : Obligations.SellTakesStampsOrRefuses := by
  intro denom count s hready hactive hmin hmax _
  have hcount : 1 ≤ count.toNat ∧ count.toNat ≤ 999 := ⟨hmin, hmax⟩
  rw [exec_sell_taken hready hactive]
  constructor
  case left =>
    intro habsent
    rw [sellRequest_absent hcount (State.denomAt_of_absent habsent)]
    rfl
  case right =>
    intro d hd hexists
    have hdenom : s.denomAt denom.toNat = some d := hd ▸ State.denomAt_of_exists hexists
    constructor
    case left =>
      intro hshort
      rw [sellRequest_short hcount hdenom hshort]
      rfl
    case right =>
      intro henough
      rw [sellRequest_sold hcount hdenom henough]
      rfl

end Sys2Proof.Machine
end

section
/-! PROOFS. One equation per value event: the whole next state, in the words of Safety.lean (R7 to R13, R19, R58, R75 to R81,
R132, R141, R150). -/

namespace Sys2Proof.Machine

variable (s : State)

/-! ### CREDIT -/

/-- Giving CREDIT a value: CREDIT, and what a move into LOW or EMPTY latches and wakes (R12, R13). -/
theorem setCredit_eq (c : Nat) :
    s.setCredit c = { s with
      acct := { s.acct with credit := c }, bal := s.balAt c, host := { s.host with alerts := s.alertsAt c } } := by
  cases h : s.entersShort c with
  | true => rw [setCredit_wakes s c h]; simp [State.balAt, State.alertsAt, h]
  | false => rw [setCredit_quiet s c h]; simp [State.balAt, State.alertsAt, h]

/-- An accepted voucher (R19). -/
theorem acceptVoucher_eq (serial amount : Nat) :
    s.acceptVoucher serial amount = { s with
      acct := { s.acct with
        credit := s.acct.credit + amount, loaded := s.acct.loaded + amount, lastSerial := serial },
      journal := s.journalWith .voucher none (some serial) none none amount (some (s.acct.credit + amount)),
      time := { s.time with inspection := 0 },
      bal := s.balAt (s.acct.credit + amount),
      host := { s.host with alerts := s.nearFull (s.alertsAt (s.acct.credit + amount)) } } := by
  simp only [State.acceptVoucher, append_eq, setCredit_eq]
  rfl

/-- The value event of a credit give, before its GIVE is placed (R9, R132, R141). -/
def State.gave (k : Station) (g : Nat) (s : State) : State := { s with
  acct := { s.acct with credit := s.acct.credit - g, given := s.acct.given + g },
  settle := { s.settle with
    giveSerial := s.settle.giveSerial + 1, records := s.settle.records ++ [s.nextRecord k (.credit g)] },
  journal := s.journalWith .giveCredit (some k) (some (s.settle.giveSerial + 1).toNat) none none g
    (some (s.acct.credit - g)),
  bal := s.balAt (s.acct.credit - g),
  host := { s.host with alerts := s.nearFull (s.alertsAt (s.acct.credit - g)) } }

/-- A credit give: the value event, then its GIVE on the queue (R9, R132, R141, R142). -/
theorem giveCredit_eq (k : Station) (g : Nat) :
    s.giveCredit k g = (s.gave k g).place (s.nextRecord k (.credit g)).givePayload := by
  simp only [State.giveCredit, append_eq, setCredit_eq]
  rfl

/-- A credit receipt (R10, R150). -/
theorem receiveCredit_eq (g : Station) (serial : BitVec 16) (a : Nat) :
    s.receiveCredit g serial a = { s with
      acct := { s.acct with credit := s.acct.credit + a, taken := s.acct.taken + a },
      settle := { s.settle with
        receipts := s.settle.receipts.set g.slot (some { serial := serial, verdict := .received }) },
      journal := s.journalWith .receiveCredit (some g) (some serial.toNat) none none a (some (s.acct.credit + a)),
      bal := s.balAt (s.acct.credit + a),
      host := { s.host with alerts := s.nearFull (s.alertsAt (s.acct.credit + a)) } } := by
  simp only [State.receiveCredit, append_eq, setCredit_eq]
  rfl

/-! ### Stamps -/

/-- A delivery (R75). -/
theorem deliver_eq (d : Fin 16) (c : Nat) :
    s.deliver d c = { s with
      stock := s.stock.set d { s.stock[d] with onHand := s.stock[d].onHand + c, received := s.stock[d].received + c },
      journal := s.journalWith .stockIn none none (some d) none c (some (s.stock[d].onHand + c)),
      host := { s.host with alerts := s.nearFull s.host.alerts } } := by
  simp only [State.deliver, append_eq]
  rfl

/-- A COUNT that finds more stamps (R77). -/
theorem adjust_over {d : Fin 16} {p : Nat} (h : s.stock[d].onHand < p) :
    s.adjust d p = { s with
      stock := s.stock.set d { s.stock[d] with
        onHand := p, overFound := s.stock[d].overFound + (p - s.stock[d].onHand) },
      journal := s.journalWith .countAdjust none none (some d) (some .overage) (p - s.stock[d].onHand) (some p),
      host := { s.host with alerts := s.nearFull s.host.alerts } } := by
  simp only [State.adjust, if_pos h, append_eq]
  rfl

/-- A COUNT that finds fewer stamps (R77). -/
theorem adjust_short {d : Fin 16} {p : Nat} (h : ¬ s.stock[d].onHand < p) :
    s.adjust d p = { s with
      stock := s.stock.set d { s.stock[d] with
        onHand := p, shortFound := s.stock[d].shortFound + (s.stock[d].onHand - p) },
      journal := s.journalWith .countAdjust none none (some d) (some .shortage) (s.stock[d].onHand - p) (some p),
      host := { s.host with alerts := s.nearFull s.host.alerts } } := by
  simp only [State.adjust, if_neg h, append_eq]
  rfl

/-- The value event of a consignment, before its GIVE is placed (R79, R141). -/
def State.consigned (k : Station) (d : Fin 16) (c : Nat) (s : State) : State := { s with
  stock := s.stock.set d { s.stock[d] with onHand := s.stock[d].onHand - c, outward := s.stock[d].outward + c },
  settle := { s.settle with
    giveSerial := s.settle.giveSerial + 1,
    records := s.settle.records ++ [s.nextRecord k (.stock d c (s.face d))] },
  journal := s.journalWith .giveStock (some k) (some (s.settle.giveSerial + 1).toNat) (some d) none c
    (some (s.stock[d].onHand - c)),
  host := { s.host with alerts := s.nearFull s.host.alerts } }

/-- A consignment: the value event, then its GIVE on the queue (R79, R141, R142). -/
theorem consign_eq (k : Station) (d : Fin 16) (c : Nat) :
    s.consign k d c = (s.consigned k d c).place (s.nextRecord k (.stock d c (s.face d))).givePayload := by
  simp only [State.consign, append_eq]
  rfl

/-- A stock receipt (R80). -/
theorem receiveStock_eq (g : Station) (serial : BitVec 16) (d : Fin 16) (c : Nat) :
    s.receiveStock g serial d c = { s with
      stock := s.stock.set d { s.stock[d] with onHand := s.stock[d].onHand + c, inward := s.stock[d].inward + c },
      settle := { s.settle with
        receipts := s.settle.receipts.set g.slot (some { serial := serial, verdict := .received }) },
      journal := s.journalWith .receiveStock (some g) (some serial.toNat) (some d) none c
        (some (s.stock[d].onHand + c)),
      host := { s.host with alerts := s.nearFull s.host.alerts } } := by
  simp only [State.receiveStock, append_eq]
  rfl

/-! ### Closing a record -/

/-- The outbound unit without the first record that has the receiver and serial of r (R141). -/
def SettlementUnit.without (u : SettlementUnit) (r : OutRecord) : SettlementUnit :=
  { u with records := u.records.eraseP (·.isOf r.receiver r.serial) }

theorem closeRecord_eq (r : OutRecord) : s.closeRecord r = { s with settle := s.settle.without r } := rfl

/-- The line after the withdrawal of a record's GIVE (R143, R144). -/
def State.lineWithout (s : State) (r : OutRecord) : LineController := (s.withdrawGive r.receiver r.serial).line

/-- A state whose station control has taken notice: the rest of it is as it was (R59, R157, R164). -/
def State.noticed (s : State) : State := { s with ctl := s.notice.ctl }

/-- The settle of a credit record (R11, R86). -/
theorem settleRecord_credit {r : OutRecord} {g : Nat} (h : r.body = .credit g) :
    s.settleRecord r = State.noticed { s with
      acct := { s.acct with settledOut := s.acct.settledOut + g },
      settle := s.settle.without r,
      journal := s.journalWith .settle (some r.receiver) (some r.serial.toNat) none none g (some s.acct.credit),
      host := { s.host with alerts := s.nearFull s.host.alerts },
      line := s.lineWithout r } := by
  simp only [State.settleRecord, h, append_eq]
  rw [notice_eq]
  rfl

/-- The settle of a stock record (R81, R86). -/
theorem settleRecord_stock {r : OutRecord} {d : Fin 16} {c f : Nat} (h : r.body = .stock d c f) :
    s.settleRecord r = State.noticed { s with
      settle := s.settle.without r,
      journal := s.journalWith .settle (some r.receiver) (some r.serial.toNat) (some d) none c none,
      host := { s.host with alerts := s.nearFull s.host.alerts },
      line := s.lineWithout r } := by
  simp only [State.settleRecord, h, append_eq]
  rw [notice_eq]
  rfl

/-- The restore of a credit record (R11, R86). -/
theorem restoreRecord_credit {r : OutRecord} {g : Nat} (h : r.body = .credit g) :
    s.restoreRecord r = State.noticed { s with
      acct := { s.acct with reclaimed := s.acct.reclaimed + g, credit := s.acct.credit + g },
      settle := s.settle.without r,
      journal := s.journalWith .restore (some r.receiver) (some r.serial.toNat) none none g
        (some (s.acct.credit + g)),
      bal := s.balAt (s.acct.credit + g),
      host := { s.host with alerts := s.nearFull (s.alertsAt (s.acct.credit + g)) },
      line := s.lineWithout r } := by
  simp only [State.restoreRecord, h, append_eq, setCredit_eq]
  rw [notice_eq]
  rfl

/-- The restore of a stock record (R81, R86). -/
theorem restoreRecord_stock {r : OutRecord} {d : Fin 16} {c f : Nat} (h : r.body = .stock d c f) :
    s.restoreRecord r = State.noticed { s with
      stock := s.stock.set d { s.stock[d] with
        onHand := s.stock[d].onHand + c, returned := s.stock[d].returned + c },
      settle := s.settle.without r,
      journal := s.journalWith .restore (some r.receiver) (some r.serial.toNat) (some d) none c
        (some (s.stock[d].onHand + c)),
      host := { s.host with alerts := s.nearFull s.host.alerts },
      line := s.lineWithout r } := by
  simp only [State.restoreRecord, h, append_eq]
  rw [notice_eq]
  rfl

/-- The strand of a record (R143, R157). -/
theorem strand_noticed (r : OutRecord) :
    s.strand r = State.noticed { s with
      settle := { s.settle with records := updateRecord (·.isOf r.receiver r.serial) OutRecord.stranded s.settle.records },
      host := { s.host with alerts := { s.host.alerts with stranded := true } },
      line := s.lineWithout r } := strand_eq s r

/-! ### Reservations -/

/-- A grant in WINDOW or EXTENDED mode (R7, R55). -/
theorem grantReserved_eq (items : List (Fin 8 × Nat)) :
    s.grantReserved items = { s with
      acct := { s.acct with
        credit := s.acct.credit - batchTotal items, held := s.acct.held + batchTotal items },
      resv := { s.resv with table := s.resv.table ++ [s.newReservation items], nextId := idAfter s.chosenId },
      bal := s.balAt (s.acct.credit - batchTotal items),
      host := { s.host with alerts := s.alertsAt (s.acct.credit - batchTotal items) } } := by
  simp only [State.grantReserved, setCredit_eq]
  rfl

/-- Counting one printed item changes its class totals alone (R66). -/
theorem addPrinted_eq (c : Fin 8) (v : Nat) :
    s.addPrinted c v = { s with resv := { s.resv with totals := s.resv.totals.set c {
      count := min (s.resv.totals[c].count + 1) 4294967295, value := s.resv.totals[c].value + v } } } := rfl

/-- The class totals after one more printed item (R66). -/
def printedIn (totals : Vector ClassTotal 8) (c : Fin 8) (v : Nat) : Vector ClassTotal 8 :=
  totals.set c { count := min (totals[c].count + 1) 4294967295, value := totals[c].value + v }

/-- Counting several printed items changes the class totals alone. -/
theorem addPrinted_foldl (items : List (Fin 8 × Nat)) :
    items.foldl (fun t v => t.addPrinted v.1 v.2) s = { s with resv := { s.resv with
      totals := items.foldl (fun t v => printedIn t v.1 v.2) s.resv.totals } } := by
  induction items generalizing s with
  | nil => rfl
  | cons v vs ih => rw [List.foldl_cons, ih, List.foldl_cons]; rfl

/-- A grant in IMMEDIATE mode (R7, R54, R66). -/
theorem grantImmediate_eq (items : List (Fin 8 × Nat)) :
    s.grantImmediate items = { s with
      acct := { s.acct with
        credit := s.acct.credit - batchTotal items, used := s.acct.used + batchTotal items },
      resv := { s.resv with totals := items.foldl (fun t v => printedIn t v.1 v.2) s.resv.totals },
      bal := s.balAt (s.acct.credit - batchTotal items),
      host := { s.host with alerts := s.alertsAt (s.acct.credit - batchTotal items) } } := by
  rw [State.grantImmediate, addPrinted_foldl, setCredit_eq]
  rfl

/-- Charging several items changes HELD, USED and the class totals. -/
theorem chargeItems_totals (items : List ResItem) :
    (items.foldl (fun t i => t.chargeItem i) s).resv.totals =
      items.foldl (fun t i => printedIn t i.cls i.value) s.resv.totals := by
  induction items generalizing s with
  | nil => rfl
  | cons i is ih => rw [List.foldl_cons, ih, List.foldl_cons]; rfl

/-- The closing of a reservation as printed, with its class totals written out (R60, R67). -/
theorem closeAsPrinted_totals (r : Reservation) :
    (s.closeAsPrinted r).resv.totals = r.grantedItems.foldl (fun t i => printedIn t i.cls i.value) s.resv.totals := by
  rw [closeAsPrinted_eq]
  exact chargeItems_totals s _

/-- The expiry of a reservation (R59, R60, R65). -/
theorem expire_noticed (r : Reservation) :
    s.expire r = State.noticed { s.closeAsPrinted r with host := { s.host with
      alerts := if !r.grantedItems.isEmpty then s.host.alerts.latch .reservationExpired else s.host.alerts } } := by
  rw [expire_eq, latchIf_eq, notice_eq, closeAsPrinted_eq]
  rfl

/-- The charge of a confirmed item (R8, R58). -/
theorem moveItem_printed (i : ResItem) :
    s.moveItem i .printed = { s with
      acct := { s.acct with held := s.acct.held - i.value, used := s.acct.used + i.value },
      resv := { s.resv with totals := printedIn s.resv.totals i.cls i.value } } := rfl

/-- The return of a failed item's value to CREDIT (R8, R58). -/
theorem moveItem_failed (i : ResItem) :
    s.moveItem i .failed = { s with
      acct := { s.acct with held := s.acct.held - i.value, credit := s.acct.credit + i.value },
      bal := s.balAt (s.acct.credit + i.value),
      host := { s.host with alerts := s.alertsAt (s.acct.credit + i.value) } } := by
  simp only [State.moveItem, if_true, setCredit_eq]
  rfl

end Sys2Proof.Machine
end

section
/-! PROOFS. The line stays sound: what each operation of the line controller does to the transmit queue, the receive queue
and the run count (R100 to R107, R143). -/

namespace Sys2Proof.Machine

/-! ### The queue as a list -/

/-- What LineSound says of the line controller alone. -/
def LineController.Sound (l : LineController) : Prop :=
  l.QueueSound ∧ l.rx.length ≤ 16 ∧ (l.state = .up → l.runCount ≤ 7) ∧
  (l.state = .alone → l.runCount = 8 ∧ ∀ e ∈ l.tx, e.payload.isRoll = true)

theorem lineSound_iff (s : State) : s.LineSound ↔ s.line.Sound := Iff.rfl

/-- A transmit queue in order (R100, R103, R106). -/
structure TxSound (q : List TxEntry) : Prop where
  length : q.length ≤ 8
  sorted : (q.map (·.payload.kind)).Pairwise (· ≤ ·)
  single : q.countP (·.inProgress) ≤ 1
  attempts : ∀ e ∈ q, e.attempts ≤ 15

/-- A queue of ROLL frames alone, as ALONE allows (R105). -/
def OnlyRolls (q : List TxEntry) : Prop := ∀ e ∈ q, e.payload.isRoll = true

theorem LineController.queueSound_iff (l : LineController) : l.QueueSound ↔ TxSound l.tx :=
  ⟨fun ⟨h1, h2, h3, h4⟩ => ⟨h1, h2, h3, h4⟩, fun ⟨h1, h2, h3, h4⟩ => ⟨h1, h2, h3, h4⟩⟩

theorem LineController.sound_iff (l : LineController) : l.Sound ↔ TxSound l.tx ∧ l.rx.length ≤ 16 ∧
    (l.state = .up → l.runCount ≤ 7) ∧ (l.state = .alone → l.runCount = 8 ∧ OnlyRolls l.tx) := by
  rw [← l.queueSound_iff]
  exact Iff.rfl

/-- A change of the queue alone keeps the line sound when the new queue is in order, and of ROLLs where the old one was. -/
theorem LineController.Sound.withTx {l : LineController} (h : l.Sound) {q : List TxEntry} (hq : TxSound l.tx → TxSound q)
    (hr : l.state = .alone → OnlyRolls l.tx → OnlyRolls q) : ({ l with tx := q } : LineController).Sound := by
  rw [LineController.sound_iff] at h ⊢
  obtain ⟨htx, hrx, hup, halone⟩ := h
  exact ⟨hq htx, hrx, hup, fun ha => ⟨(halone ha).1, hr ha (halone ha).2⟩⟩

theorem TxSound.nil : TxSound [] := ⟨by simp, by simp, by simp, by simp⟩

/-- Frames may leave a queue in order. -/
theorem TxSound.sublist {p q : List TxEntry} (h : TxSound q) (hs : p.Sublist q) : TxSound p where
  length := Nat.le_trans hs.length_le h.length
  sorted := h.sorted.sublist (hs.map _)
  single := Nat.le_trans hs.countP_le h.single
  attempts := fun e he => h.attempts e (hs.subset he)

theorem OnlyRolls.sublist {p q : List TxEntry} (h : OnlyRolls q) (hs : p.Sublist q) : OnlyRolls p :=
  fun e he => h e (hs.subset he)

/-- An inserted frame that is not in progress leaves the count of those in progress. -/
theorem insertTx_countP (e : TxEntry) (q : List TxEntry) (he : e.inProgress = false) :
    (insertTx e q).countP (·.inProgress) = q.countP (·.inProgress) := by
  induction q with
  | nil => simp [insertTx, he]
  | cons x xs ih =>
    simp only [insertTx]
    split
    · simp only [List.countP_cons, ih]
    · simp [List.countP_cons, he]

/-- A fresh frame may join a queue that has room. -/
theorem TxSound.insert {q : List TxEntry} (h : TxSound q) (hroom : q.length < 8) (p : Payload) :
    TxSound (insertTx (.fresh p) q) where
  length := by simp; omega
  sorted := insertTx_sorted _ _ h.sorted
  single := by rw [insertTx_countP _ _ rfl]; exact h.single
  attempts := by
    intro e he
    rcases mem_insertTx.1 he with rfl | he
    · exact Nat.zero_le _
    · exact h.attempts e he

theorem OnlyRolls.insert {q : List TxEntry} (h : OnlyRolls q) {p : Payload} (hp : p.isRoll = true) :
    OnlyRolls (insertTx (.fresh p) q) := by
  intro e he
  rcases mem_insertTx.1 he with rfl | he
  · exact hp
  · exact h e he

theorem eraseLast_sublist (p : TxEntry → Bool) (q : List TxEntry) : (eraseLast p q).Sublist q := by
  have h := (List.eraseP_sublist (p := p) (l := q.reverse)).reverse
  rwa [List.reverse_reverse] at h

/-- Where an entry satisfies p, taking one out makes the queue shorter. -/
theorem eraseLast_length {p : TxEntry → Bool} {q : List TxEntry} {x : TxEntry} (hx : x ∈ q) (hp : p x = true) :
    (eraseLast p q).length = q.length - 1 := by
  rw [eraseLast, List.length_reverse, List.length_eraseP_of_mem (List.mem_reverse.2 hx) hp, List.length_reverse]

/-- The last waiting frame is a queued frame that is not in progress. -/
theorem lastWaiting_mem {q : List TxEntry} {x : TxEntry} (h : lastWaiting q = some x) :
    x ∈ q ∧ x.inProgress = false := by
  have hx := List.mem_of_getLast? h
  rw [List.mem_filter] at hx
  exact ⟨hx.1, by simpa using hx.2⟩

/-- A ROLL that takes the place of a waiting one leaves kinds and frames in progress as they were (R108). -/
theorem replaceRoll_shape {p : Payload} (hp : p.isRoll = true) (q : List TxEntry) :
    (replaceRoll p q).map (·.payload.kind) = q.map (·.payload.kind) ∧
    (replaceRoll p q).map (·.inProgress) = q.map (·.inProgress) := by
  have roll_kind : ∀ r : Payload, r.isRoll = true → r.kind = 12 := by
    intro r hr
    cases r with
    | roll c => rfl
    | _ => exact nomatch hr
  induction q with
  | nil => exact ⟨rfl, rfl⟩
  | cons x xs ih =>
    simp only [replaceRoll]
    split
    · rename_i hx
      simp only [Bool.and_eq_true, Bool.not_eq_true'] at hx
      simp [TxEntry.fresh, roll_kind _ hp, roll_kind _ hx.1, hx.2]
    · simp [ih.1, ih.2]

theorem mem_replaceRoll {p : Payload} {q : List TxEntry} {e : TxEntry} (h : e ∈ replaceRoll p q) :
    e = .fresh p ∨ e ∈ q := by
  induction q with
  | nil => exact absurd h (by simp [replaceRoll])
  | cons x xs ih =>
    simp only [replaceRoll] at h
    split at h
    · rcases List.mem_cons.1 h with rfl | h
      · exact .inl rfl
      · exact .inr (List.mem_cons_of_mem _ h)
    · rcases List.mem_cons.1 h with rfl | h
      · exact .inr List.mem_cons_self
      · exact (ih h).imp_right (List.mem_cons_of_mem _)

/-- A queue whose kinds and frames in progress are those of a queue in order is in order. -/
theorem TxSound.of_shape {p q : List TxEntry} (h : TxSound q)
    (hk : p.map (·.payload.kind) = q.map (·.payload.kind))
    (hi : p.countP (·.inProgress) ≤ 1) (ha : ∀ e ∈ p, e.attempts ≤ 15) : TxSound p where
  length := by
    have := congrArg List.length hk
    rw [List.length_map, List.length_map] at this
    exact this ▸ h.length
  sorted := hk ▸ h.sorted
  single := hi
  attempts := ha

theorem countP_inProgress_eq {p q : List TxEntry} (h : p.map (·.inProgress) = q.map (·.inProgress)) :
    p.countP (·.inProgress) = q.countP (·.inProgress) := by
  have key : ∀ l : List TxEntry, l.countP (·.inProgress) = (l.map (·.inProgress)).countP id := by
    intro l
    rw [List.countP_map]
    rfl
  rw [key, key, h]

/-! ### Placement -/

/-- Placing a frame keeps the line sound (R100, R105 to R108). -/
theorem place_sound (s : State) (p : Payload) (h : s.line.Sound) : (s.place p).line.Sound := by
  unfold State.place
  split
  · exact h
  rename_i hdrop
  have hroll : s.line.state = .alone → p.isRoll = true := by
    intro ha
    cases hp : p.isRoll with
    | true => rfl
    | false => exact absurd ⟨ha, hp⟩ hdrop
  split
  · rename_i hrep
    have hp : p.isRoll = true := (Bool.and_eq_true _ _ ▸ hrep).1
    obtain ⟨hk, hi⟩ := replaceRoll_shape hp s.line.tx
    refine h.withTx (fun hq => hq.of_shape hk ?_ ?_) (fun _ hr e he => ?_)
    · rw [countP_inProgress_eq hi]; exact hq.single
    · intro e he
      rcases mem_replaceRoll he with rfl | he
      · exact Nat.zero_le _
      · exact hq.attempts e he
    · rcases mem_replaceRoll he with rfl | he
      · exact hp
      · exact hr e he
  split
  · rename_i hroom
    exact h.withTx (fun hq => hq.insert hroom p) (fun ha hr => hr.insert (hroll ha))
  · unfold State.placeFull
    split
    · rename_i x hx
      split
      · obtain ⟨hmem, hwait⟩ := lastWaiting_mem hx
        have hsub := eraseLast_sublist (fun e => !e.inProgress) s.line.tx
        have hpos := List.length_pos_of_mem hmem
        refine h.withTx (fun hq => (hq.sublist hsub).insert ?_ p) (fun ha hr => (hr.sublist hsub).insert (hroll ha))
        have := hq.length
        rw [eraseLast_length hmem (by simp [hwait])]
        omega
      · exact h
    · exact h

/-- The frame of a withdrawn GIVE leaves, or is marked, where it stands (R143, R144). -/
theorem withdrawGive_sound (s : State) (k : Station) (serial : BitVec 16) (h : s.line.Sound) :
    (s.withdrawGive k serial).line.Sound := by
  have hsub := List.filter_sublist (p := fun e : TxEntry => !(e.payload.isGiveOf k serial && !e.inProgress))
    (l := s.line.tx)
  have mark (e : TxEntry) : ∃ c, (if e.payload.isGiveOf k serial then { e with cancelled := true } else e) =
      { e with cancelled := c } := by
    split
    · exact ⟨_, rfl⟩
    · exact ⟨e.cancelled, rfl⟩
  refine h.withTx (fun hq => (hq.sublist hsub).of_shape ?_ ?_ ?_) (fun _ hr => ?_)
  · rw [List.map_map]
    exact List.map_congr_left fun e _ => by obtain ⟨c, hc⟩ := mark e; simp only [Function.comp_apply, hc]
  · rw [countP_inProgress_eq (q := s.line.tx.filter _)]
    · exact (hq.sublist hsub).single
    · rw [List.map_map]
      exact List.map_congr_left fun e _ => by obtain ⟨c, hc⟩ := mark e; simp only [Function.comp_apply, hc]
  · intro x hx
    obtain ⟨e, he, rfl⟩ := List.mem_map.1 hx
    obtain ⟨c, hc⟩ := mark e
    rw [hc]
    exact (hq.sublist hsub).attempts e he
  · intro x hx
    obtain ⟨e, he, rfl⟩ := List.mem_map.1 hx
    obtain ⟨c, hc⟩ := mark e
    rw [hc]
    exact (hr.sublist hsub) e he

/-! ### Attempts -/

/-- The frame in progress stands in the queue. -/
theorem inProgress_mem {l : LineController} {e : TxEntry} (h : l.inProgress = some e) :
    e ∈ l.tx ∧ e.inProgress = true :=
  ⟨List.mem_of_find?_eq_some h, List.find?_some (p := TxEntry.inProgress) h⟩

theorem startAttempt_sound (s : State) (h : s.line.Sound) : s.startAttempt.line.Sound := by
  unfold State.startAttempt
  cases hfree : s.line.inProgress with
  | some e => exact h
  | none =>
    have hnone : ∀ e ∈ s.line.tx, ¬ e.inProgress = true := List.find?_eq_none.1 hfree
    cases hq : s.line.tx with
    | nil =>
      refine h.withTx (fun ht => ?_) (fun _ hr => ?_)
      · rw [hq]; exact TxSound.nil
      · rw [hq]; exact fun e he => absurd he (by simp [markFront])
    | cons x xs =>
      rw [hq] at hnone
      refine h.withTx (fun ht => ?_) (fun _ hr => ?_)
      · rw [hq] at ht ⊢
        refine ht.of_shape rfl ?_ ?_
        · have : xs.countP (·.inProgress) = 0 :=
            List.countP_eq_zero.2 fun e he => hnone e (List.mem_cons_of_mem _ he)
          simp [markFront, this]
        · intro e he
          rcases List.mem_cons.1 he with rfl | he
          · exact ht.attempts x List.mem_cons_self
          · exact ht.attempts e (List.mem_cons_of_mem _ he)
      · rw [hq] at hr ⊢
        intro e he
        rcases List.mem_cons.1 he with rfl | he
        · exact hr x List.mem_cons_self
        · exact hr e (List.mem_cons_of_mem _ he)

theorem removeInProgress_sound (s : State) (h : s.line.Sound) : s.removeInProgress.line.Sound :=
  h.withTx (fun hq => hq.sublist List.eraseP_sublist) (fun _ hr => hr.sublist List.eraseP_sublist)

/-- The frame in progress changed where it stands: every other frame is as it was. -/
theorem mem_updateInProgress {f : TxEntry → TxEntry} {q : List TxEntry} {e : TxEntry}
    (h : e ∈ updateInProgress f q) : e ∈ q ∨ ∃ x ∈ q, x.inProgress = true ∧ e = f x := by
  induction q with
  | nil => exact absurd h (by simp [updateInProgress])
  | cons x xs ih =>
    simp only [updateInProgress] at h
    split at h
    · rename_i hx
      rcases List.mem_cons.1 h with rfl | h
      · exact .inr ⟨x, List.mem_cons_self, hx, rfl⟩
      · exact .inl (List.mem_cons_of_mem _ h)
    · rcases List.mem_cons.1 h with rfl | h
      · exact .inl List.mem_cons_self
      · rcases ih h with h | ⟨y, hy, hp, rfl⟩
        · exact .inl (List.mem_cons_of_mem _ h)
        · exact .inr ⟨y, List.mem_cons_of_mem _ hy, hp, rfl⟩

/-- The frame in progress goes back to waiting: the queue keeps its kinds, and has no more frames in progress. -/
theorem updateInProgress_shape {f : TxEntry → TxEntry} (hf : ∀ x, (f x).payload = x.payload ∧ (f x).inProgress = false)
    (q : List TxEntry) :
    (updateInProgress f q).map (·.payload) = q.map (·.payload) ∧
    (updateInProgress f q).countP (·.inProgress) ≤ q.countP (·.inProgress) := by
  induction q with
  | nil => exact ⟨rfl, Nat.le_refl _⟩
  | cons x xs ih =>
    simp only [updateInProgress]
    split
    · rename_i hx
      simp [(hf x).1, (hf x).2, hx]
    · rename_i hx
      simp [ih.1, hx, ih.2]

/-- A frame in progress goes back to waiting in a sound line. -/
theorem updateInProgress_sound {l : LineController} {f : TxEntry → TxEntry}
    (hf : ∀ x, (f x).payload = x.payload ∧ (f x).inProgress = false)
    (ha : ∀ x ∈ l.tx, x.inProgress = true → (f x).attempts ≤ 15) (h : l.Sound) :
    ({ l with tx := updateInProgress f l.tx } : LineController).Sound := by
  obtain ⟨hp, hc⟩ := updateInProgress_shape hf l.tx
  refine h.withTx (fun hq => hq.of_shape ?_ (Nat.le_trans hc hq.single) ?_) (fun _ hr => ?_)
  · have := congrArg (List.map Payload.kind) hp
    rw [List.map_map, List.map_map] at this
    exact this
  · intro e he
    rcases mem_updateInProgress he with he | ⟨x, hx, hpx, rfl⟩
    · exact hq.attempts e he
    · exact ha x hx hpx
  · intro e he
    rcases mem_updateInProgress he with he | ⟨x, hx, -, rfl⟩
    · exact hr e he
    · rw [(hf x).1]; exact hr x hx

theorem loseArbitration_sound (s : State) (h : s.line.Sound) : s.loseArbitration.line.Sound := by
  unfold State.loseArbitration
  split
  · exact h
  · split
    · exact removeInProgress_sound s h
    · exact updateInProgress_sound (fun x => ⟨rfl, rfl⟩)
        (fun x hx _ => ((s.line.sound_iff.1 h).1.attempts x hx)) h

theorem returnToUp_sound (s : State) (h : s.line.Sound) : s.returnToUp.line.Sound := by
  rw [returnToUp_eq]
  rw [LineController.sound_iff] at h ⊢
  obtain ⟨htx, hrx, hup, halone⟩ := h
  refine ⟨htx, hrx, fun _ => ?_, fun ha => nomatch ha⟩
  show (if s.line.state = .alone then 0 else s.line.runCount) ≤ 7
  split
  · exact Nat.zero_le _
  · rename_i hs
    exact hup (by cases hl : s.line.state <;> simp_all)

/-- A sound line stays sound when the frame in progress leaves acknowledged (R102, R103, R105). -/
theorem acknowledge_sound (s : State) (h : s.line.Sound) : s.acknowledge.line.Sound := by
  unfold State.acknowledge
  split
  · exact h
  rename_i e hp
  obtain ⟨htx, hrx, hup, halone⟩ := s.line.sound_iff.1 h
  have htx' := htx.sublist (List.eraseP_sublist (p := (·.inProgress)) (l := s.line.tx))
  simp only [State.frameLeft, State.onSettle_line]
  split
  · rw [returnToUp_eq]
    refine (LineController.sound_iff _).2 ⟨htx', hrx, fun _ => ?_, fun ha => nomatch ha⟩
    show (if s.line.state = .alone then 0 else 0) ≤ 7
    split <;> exact Nat.zero_le _
  · rename_i hroll
    have hstate : s.line.state ≠ .alone := fun hs => hroll ((halone hs).2 e (inProgress_mem hp).1)
    exact (LineController.sound_iff _).2 ⟨htx', hrx, fun _ => Nat.zero_le 7, fun ha => absurd ha hstate⟩

theorem attemptDrop_sound (s : State) (p : Payload) (h : s.line.Sound) : (s.attemptDrop p).line.Sound :=
  removeInProgress_sound s h

/-- Telling the owners that frames have left does not move the line. -/
theorem frameLeft_foldl_line (ps : List Payload) (s : State) :
    (ps.foldl (fun u p => u.frameLeft p) s).line = s.line := by
  induction ps generalizing s with
  | nil => rfl
  | cons p ps ih => rw [List.foldl_cons, ih]; rfl

/-- The eighth run drop empties the queue on its way into ALONE (R104). -/
theorem countRun_sound (s : State) (h : s.line.Sound) (hs : s.line.state = .up) : s.countRun.line.Sound := by
  obtain ⟨htx, hrx, hup, halone⟩ := s.line.sound_iff.1 h
  have hrun := hup hs
  unfold State.countRun
  simp only
  split
  · rename_i h8
    simp only [State.onLine_line] at h8
    unfold State.enterAlone
    simp only [frameLeft_foldl_line]
    refine (LineController.sound_iff _).2 ⟨TxSound.nil, hrx, fun hu => LineState.noConfusion hu, fun _ => ⟨?_, ?_⟩⟩
    · show s.line.runCount + 1 = 8
      omega
    · exact fun e he => absurd he List.not_mem_nil
  · rename_i h8
    simp only [State.onLine_line] at h8
    refine (LineController.sound_iff _).2 ⟨htx, hrx, fun _ => ?_, fun ha => ?_⟩
    · show s.line.runCount + 1 ≤ 7
      omega
    · exact absurd (hs.symm.trans ha) (by decide)

theorem failAttempt_sound (s : State) (h : s.line.Sound) : s.failAttempt.line.Sound := by
  unfold State.failAttempt
  cases hp : s.line.inProgress with
  | none => exact h
  | some e =>
    simp only
    split
    · exact removeInProgress_sound s h
    split
    · exact attemptDrop_sound s _ h
    rename_i hstate
    split
    · refine countRun_sound _ (attemptDrop_sound s _ h) ?_
      show s.line.state = .up
      cases hs : s.line.state <;> simp_all
    · rename_i hlast
      refine updateInProgress_sound (fun x => ⟨rfl, rfl⟩) (fun x hx hxp => ?_) h
      have hsingle := (s.line.sound_iff.1 h).1.single
      have hxe : x = e := by
        obtain ⟨a, b, hsplit, ha⟩ : ∃ a b, s.line.tx = a ++ e :: b ∧ ∀ y ∈ a, ¬ y.inProgress = true := by
          obtain ⟨-, a, b, hab, ha⟩ := List.find?_eq_some_iff_append.1 hp
          exact ⟨a, b, hab, fun y hy => by simpa using ha y hy⟩
        have hep := (inProgress_mem hp).2
        rw [hsplit] at hx hsingle
        have hb : b.countP (·.inProgress) = 0 := by
          simp only [List.countP_append, List.countP_cons, hep, if_true] at hsingle
          omega
        rcases List.mem_append.1 hx with hx | hx
        · exact absurd hxp (ha x hx)
        · rcases List.mem_cons.1 hx with rfl | hx
          · rfl
          · exact absurd hxp (List.countP_eq_zero.1 hb x hx)
      subst hxe
      show x.attempts + 1 ≤ 15
      simp only [lastAttempt] at hlast
      omega

/-! ### Arrival and the taking of frames -/

theorem arrive_sound (s : State) (identifier : BitVec 11) (data : List Byte) (h : s.line.Sound) :
    (s.arrive identifier data).line.Sound := by
  unfold State.arrive
  split
  · exact h
  have hu := returnToUp_sound s h
  simp only
  split
  · exact hu
  split
  · rename_i hroom
    obtain ⟨htx, hrx, hup, halone⟩ := (LineController.sound_iff _).1 hu
    refine (LineController.sound_iff _).2 ⟨htx, ?_, hup, halone⟩
    simp only [State.onLine_line, List.length_append, List.length_singleton]
    exact hroom
  · exact hu

/-- What the line rules read: the line state, the queues and the run count. -/
def LineController.sameRules (l m : LineController) : Prop :=
  m.state = l.state ∧ m.tx = l.tx ∧ m.rx.length ≤ l.rx.length ∧ m.runCount = l.runCount

theorem LineController.Sound.of_sameRules {l m : LineController} (h : l.Sound) (hm : l.sameRules m) : m.Sound := by
  obtain ⟨hs, ht, hr, hc⟩ := hm
  rw [LineController.sound_iff] at h ⊢
  rw [hs, ht, hc]
  exact ⟨h.1, Nat.le_trans hr h.2.1, h.2.2⟩

theorem setHanded_sameRules (l : LineController) (f : Option Frame) (b : Handler) : l.sameRules (l.setHanded f b) := by
  cases b <;> exact ⟨rfl, rfl, Nat.le_refl _, rfl⟩

theorem handOn_sameRules (s : State) (f : Frame) : s.line.sameRules (s.handOn f).line := by
  unfold State.handOn
  split
  · exact ⟨rfl, rfl, Nat.le_refl _, rfl⟩
  · split
    · simp only [State.onLine_line]
      split
      · exact setHanded_sameRules _ _ _
      · exact ⟨rfl, rfl, Nat.le_refl _, rfl⟩
    · exact ⟨rfl, rfl, Nat.le_refl _, rfl⟩

theorem frameTakenBy_sameRules (s : State) (b : Handler) : s.line.sameRules (s.frameTakenBy b).line := by
  simp only [State.frameTakenBy, State.onLine_line]
  split
  · split
    · cases b <;> exact ⟨rfl, rfl, Nat.le_refl _, rfl⟩
    · exact setHanded_sameRules _ _ _
  · exact setHanded_sameRules _ _ _

theorem takeFront_sameRules (s : State) : s.line.sameRules s.takeFront.line := by
  unfold State.takeFront
  split
  · exact ⟨rfl, rfl, Nat.le_refl _, rfl⟩
  · rename_i f rest hrx
    split
    · exact ⟨rfl, rfl, Nat.le_refl _, rfl⟩
    · obtain ⟨hs, ht, hr, hc⟩ := handOn_sameRules ((((s.onLine fun l => { l with rx := rest }).onPeer f.sender
        (PeerEntry.heard f.payload)).latchIf (s.announcesNewer (s.peer f.sender) f.payload) .peerTariffNewer)) f
      simp only [latchIf_eq] at hs ht hr hc ⊢
      refine ⟨hs, ht, Nat.le_trans hr ?_, hc⟩
      rw [hrx]
      exact Nat.le_succ _

/-- A line controller just started is sound (R121). -/
theorem started_sound (own : Option Station) : (LineController.started own).Sound := by
  refine (LineController.sound_iff _).2 ⟨TxSound.nil, Nat.zero_le _, fun _ => Nat.zero_le _, fun ha => nomatch ha⟩

theorem inactive_sound : LineController.inactive.Sound := by
  refine (LineController.sound_iff _).2 ⟨TxSound.nil, Nat.zero_le _, fun _ => Nat.zero_le _, fun ha => nomatch ha⟩

end Sys2Proof.Machine
end

section
/-! PROOFS. What a step can do, said once: every step is a chain of moves, each a value event with the tests that its rule
makes before it, or a change of nothing that the invariants of Safety.lean read. -/

namespace Sys2Proof.Machine

/-! ### Quiet changes -/

/-- A record that keeps its receiver, body and state, and is as it was if STRANDED with its wait stopped. -/
def OutRecord.paced (a b : OutRecord) : Prop :=
  b.receiver = a.receiver ∧ b.body = a.body ∧ b.state = a.state ∧ (a.state = .stranded → a.wait = .stopped → b = a)

theorem OutRecord.paced_refl (a : OutRecord) : a.paced a := ⟨rfl, rfl, rfl, fun _ _ => rfl⟩

theorem OutRecord.paced_trans {a b c : OutRecord} (hab : a.paced b) (hbc : b.paced c) : a.paced c := by
  obtain ⟨h1, h2, h3, h4⟩ := hab
  obtain ⟨k1, k2, k3, k4⟩ := hbc
  refine ⟨k1.trans h1, k2.trans h2, k3.trans h3, fun hs hw => ?_⟩
  obtain rfl := h4 hs hw
  exact k4 hs hw

/-- The outbound list with nothing but sends and waits changed. -/
inductive PacedList : List OutRecord → List OutRecord → Prop
  | nil : PacedList [] []
  | cons {a b : OutRecord} {as bs : List OutRecord} (head : a.paced b) (tail : PacedList as bs) :
      PacedList (a :: as) (b :: bs)

theorem pacedList_map {f : OutRecord → OutRecord} (hf : ∀ r : OutRecord, r.paced (f r)) (a : List OutRecord) :
    PacedList a (a.map f) := by
  induction a with
  | nil => exact .nil
  | cons r rs ih => exact .cons (hf r) ih

theorem pacedList_refl (a : List OutRecord) : PacedList a a := by
  have h := pacedList_map OutRecord.paced_refl a
  rwa [List.map_id'] at h

theorem pacedList_trans {a b c : List OutRecord} (hab : PacedList a b) (hbc : PacedList b c) : PacedList a c := by
  induction hab generalizing c with
  | nil => exact hbc
  | cons h _ ih =>
    cases hbc with
    | cons k hbc => exact .cons (OutRecord.paced_trans h k) (ih hbc)

theorem startWait_paced (p : Payload) (r : OutRecord) : r.paced (startWait p r) := by
  unfold startWait
  split
  · rename_i h
    simp only [Bool.and_eq_true, beq_iff_eq] at h
    exact ⟨rfl, rfl, rfl, fun hs _ => absurd (h.2.symm.trans hs) (by decide)⟩
  · exact r.paced_refl

theorem tick_paced (r : OutRecord) : r.paced { r with wait := r.wait.tick } := by
  refine ⟨rfl, rfl, rfl, fun _ hw => ?_⟩
  obtain ⟨_, _, _, _, _, _⟩ := r
  subst hw
  rfl

/-- The change from one state to another touches nothing that the invariants read, but that the line may go from one sound
state to another, and that the waits and sends of UNSETTLED records may move; and it leaves the queue. -/
structure State.Quiet (s t : State) : Prop where
  acct : t.acct = { s.acct with limit := t.acct.limit } := by rfl
  table : t.resv.table = s.resv.table := by rfl
  totals : t.resv.totals = s.resv.totals := by rfl
  stock : t.stock = s.stock := by rfl
  journal : t.journal = s.journal := by rfl
  ctl : t.ctl = s.ctl := by rfl
  records : PacedList s.settle.records t.settle.records := by exact pacedList_refl _
  line : s.line.Sound → t.line.Sound := by exact id
  pending : t.pending = s.pending := by rfl

theorem State.Quiet.trans {s t u : State} (h : s.Quiet t) (k : t.Quiet u) : s.Quiet u where
  acct := by rw [k.acct, h.acct]
  table := k.table.trans h.table
  totals := k.totals.trans h.totals
  stock := k.stock.trans h.stock
  journal := k.journal.trans h.journal
  ctl := k.ctl.trans h.ctl
  records := pacedList_trans h.records k.records
  line := fun hl => k.line (h.line hl)
  pending := k.pending.trans h.pending

variable (s : State)

theorem quiet_refl : s.Quiet s := {}

theorem quiet_frameLeft (p : Payload) : s.Quiet (s.frameLeft p) where
  records := pacedList_map (startWait_paced p) _

theorem quiet_place (p : Payload) : s.Quiet (s.place p) := by
  have hr : PacedList s.settle.records (s.place p).settle.records := by
    unfold State.place
    split
    · exact (quiet_frameLeft s p).records
    split
    · exact pacedList_refl _
    split
    · exact pacedList_refl _
    · unfold State.placeFull
      split
      · split
        · exact (quiet_frameLeft s _).records
        · exact (quiet_frameLeft s p).records
      · exact (quiet_frameLeft s p).records
  rw [place_eq] at hr ⊢
  exact { records := hr, line := place_sound s p }

theorem quiet_foldl {α : Type} {f : State → α → State} (hf : ∀ (t : State) (a : α), t.Quiet (f t a)) (as : List α) (s : State) :
    s.Quiet (as.foldl f s) := by
  induction as generalizing s with
  | nil => exact quiet_refl s
  | cons a as ih => exact (hf s a).trans (ih (f s a))

theorem quiet_removeInProgress : s.Quiet s.removeInProgress where
  line := removeInProgress_sound s

theorem quiet_startAttempt : s.Quiet s.startAttempt := by
  have h := startAttempt_sound s
  revert h
  unfold State.startAttempt
  split <;> intro h
  · exact quiet_refl s
  · exact { line := h }

theorem quiet_loseArbitration : s.Quiet s.loseArbitration := by
  have h := loseArbitration_sound s
  revert h
  unfold State.loseArbitration
  split
  · exact fun _ => quiet_refl s
  · split <;> intro h
    · exact quiet_removeInProgress s
    · exact { line := h }

theorem quiet_acknowledge : s.Quiet s.acknowledge := by
  have h := acknowledge_sound s
  revert h
  unfold State.acknowledge
  split
  · exact fun _ => quiet_refl s
  · simp only
    split <;> intro h
    · rw [returnToUp_eq] at h ⊢
      exact { records := pacedList_map (startWait_paced _) _, line := h }
    · exact { records := pacedList_map (startWait_paced _) _, line := h }

/-- Leaving the queue after a last attempt (R103). -/
theorem quiet_attemptDrop (p : Payload) : s.Quiet (s.attemptDrop p) where
  line := attemptDrop_sound s p
  records := pacedList_map (startWait_paced p) _

theorem quiet_countRun (hs : s.line.state = .up) : s.Quiet s.countRun := by
  have h := fun hl => countRun_sound s hl hs
  revert h
  unfold State.countRun State.enterAlone
  simp only
  split <;> intro h
  · have hq := quiet_foldl quiet_frameLeft (s.line.tx.map (·.payload))
      (((s.onLine fun l => { l with runCount := l.runCount + 1 }).onLine fun l =>
        { l with state := .alone, tx := [], queueDrops := bump l.queueDrops l.tx.length }).latch .lineAlone)
    exact .trans (t := (((s.onLine fun l => { l with runCount := l.runCount + 1 }).onLine fun l =>
        { l with state := .alone, tx := [], queueDrops := bump l.queueDrops l.tx.length }).latch .lineAlone)) { line := by rwa [frameLeft_foldl_line] at h } hq
  · exact { line := h }

theorem quiet_failAttempt : s.Quiet s.failAttempt := by
  have h := failAttempt_sound s
  revert h
  unfold State.failAttempt
  split
  · exact fun _ => quiet_refl s
  split
  · exact fun _ => quiet_removeInProgress s
  split
  · exact fun _ => quiet_attemptDrop s _
  rename_i hs
  split <;> intro h
  · refine (quiet_attemptDrop s _).trans (quiet_countRun _ ?_)
    show s.line.state = .up
    cases hl : s.line.state <;> simp_all
  · exact { line := h }

theorem quiet_arrive (identifier : BitVec 11) (data : List Byte) : s.Quiet (s.arrive identifier data) := by
  have h := arrive_sound s identifier data
  revert h
  unfold State.arrive
  simp only [returnToUp_eq]
  split
  · exact fun _ => quiet_refl s
  split
  · exact fun h => { line := h }
  split
  · exact fun h => { line := h }
  · exact fun h => { line := h }

theorem quiet_takeFront : s.Quiet s.takeFront := by
  have h : s.line.Sound → s.takeFront.line.Sound := fun hl => hl.of_sameRules (takeFront_sameRules s)
  revert h
  unfold State.takeFront
  split
  · exact fun _ => quiet_refl s
  split
  · exact fun _ => quiet_refl s
  · rw [handOn_eq, latchIf_eq]
    exact fun h => { line := h }

theorem quiet_frameTakenBy (b : Handler) : s.Quiet (s.frameTakenBy b) where
  line := fun hl => hl.of_sameRules (frameTakenBy_sameRules s b)

theorem quiet_onPeer (k : Station) (f : PeerEntry → PeerEntry) : s.Quiet (s.onPeer k f) := {}

theorem quiet_setSelf (r : RollContent) : s.Quiet (s.setSelf r) := by
  unfold State.setSelf
  split
  · exact quiet_onPeer s _ _
  · exact quiet_refl s

theorem quiet_formRoll : s.Quiet s.formRoll := (quiet_setSelf s _).trans (quiet_place _ _)

theorem quiet_startTest : s.Quiet s.startTest := by
  unfold State.startTest
  split
  · exact .trans {} (quiet_place _ _)
  · exact quiet_refl s

theorem quiet_balancerTick : s.Quiet s.balancerTick := .trans {} (quiet_startTest _)

theorem quiet_queryRecord (r : OutRecord) : s.Quiet (s.queryRecord r) := by
  unfold State.queryRecord
  split
  · exact quiet_place s _
  · exact quiet_refl s

theorem quiet_settlementTick : s.Quiet s.settlementTick := by
  unfold State.settlementTick
  split
  · exact quiet_foldl (fun t r => quiet_queryRecord t r) _ s
  · exact quiet_refl s

theorem quiet_tickShare (share : TickShare) : s.Quiet (s.tickShare share) := by
  cases share with
  | roll => exact quiet_formRoll s
  | balancer => exact quiet_balancerTick s
  | settlement => exact quiet_settlementTick s

theorem quiet_rollTick (order : TickOrder) : s.Quiet (s.rollTick order) :=
  .trans {} (quiet_foldl (fun t a => quiet_tickShare t a) _ _)

theorem quiet_pick : s.Quiet s.pick := by
  unfold State.pick
  split
  · split
    · exact {}
    · split
      · exact {}
      · exact .trans {} (quiet_place _ _)
  · exact quiet_refl s

theorem quiet_endTakeWait : s.Quiet s.endTakeWait := by
  unfold State.endTakeWait
  split
  · exact {}
  · exact quiet_refl s

theorem quiet_giveOutcome (g : Station) (r : GiveResult) : s.Quiet (s.giveOutcome g r) := by
  unfold State.giveOutcome
  split
  · split
    · split
      · exact {}
      · exact {}
    · exact quiet_refl s
  · exact quiet_refl s

theorem quiet_takeCall (k : Station) (need : Nat) : s.Quiet (s.takeCall k need) := by
  unfold State.takeCall
  split
  · exact quiet_place s _
  · exact quiet_refl s

theorem quiet_latchIf (b : Bool) (a : Alert) : s.Quiet (s.latchIf b a) := by
  rw [latchIf_eq]
  exact {}

theorem quiet_tariffDay : s.Quiet s.tariffDay := by
  rw [tariffDay_eq]
  exact {}

theorem quiet_raiseInspection (days : Nat) : s.Quiet (s.raiseInspection days) :=
  .trans (t := s.onTime _) {} (quiet_latchIf _ _ _)

theorem quiet_setDay (day seconds : Nat) : s.Quiet (s.setDay day seconds) :=
  (quiet_raiseInspection s _).trans (.trans (t := State.onTime _ _) {} (quiet_tariffDay _))

theorem quiet_dayAdvance : s.Quiet s.dayAdvance :=
  .trans (t := State.onTime _ _) {} ((quiet_raiseInspection _ _).trans (quiet_tariffDay _))

theorem quiet_reply (kind : ReplyKind) (g : Station) (serial : BitVec 16) : s.Quiet (s.reply kind g serial) :=
  quiet_place s _

theorem quiet_voidGive (g : Station) (serial : BitVec 16) : s.Quiet (s.voidGive g serial) :=
  .trans (t := s.setReceipt g serial .voided) {} (quiet_reply _ _ _ _)

theorem quiet_deferGive (g : Station) (serial : BitVec 16) (body : GiveBody) : s.Quiet (s.deferGive g serial body) := by
  cases body with
  | credit _ => exact (quiet_reply s _ _ _).trans (quiet_giveOutcome _ _ _)
  | stock _ _ _ => exact quiet_reply s _ _ _

theorem quiet_takeQuery (g : Station) (serial : BitVec 16) : s.Quiet (s.takeQuery g serial) := by
  unfold State.takeQuery
  split
  · exact quiet_refl s
  · exact quiet_reply s _ _ _
  · exact quiet_reply s _ _ _
  · exact .trans (t := s.setReceipt g serial .voided) {} (quiet_reply _ _ _ _)

/-- One more send of the record that an answer wait names, which is UNSETTLED. -/
theorem updateRecord_resent_paced {p : OutRecord → Bool} {q : List OutRecord}
    (h : ∀ r, q.find? p = some r → r.state = .unsettled) : PacedList q (updateRecord p OutRecord.resent q) := by
  induction q with
  | nil => exact .nil
  | cons r rs ih =>
    simp only [updateRecord]
    split
    · rename_i hp
      have hr := h r (by rw [List.find?_cons, hp])
      exact .cons ⟨rfl, rfl, rfl, fun hs => absurd (hr.symm.trans hs) (by decide)⟩ (pacedList_refl rs)
    · rename_i hp
      exact .cons r.paced_refl (ih fun x hx => h x (by rw [List.find?_cons, eq_false_of_ne_true hp]; exact hx))

theorem quiet_passMs : s.Quiet s.passMs := by
  have hday : s.Quiet (if s.dayRuns then s.onTime Timebase.passMs else s) := by
    split
    · exact {}
    · exact quiet_refl s
  have hcount : ∀ t : State, t.Quiet (if s.powered then t.onResv (fun u => { u with elapsedMs := u.elapsedMs + 1 }) else t) := by
    intro t
    split
    · exact {}
    · exact quiet_refl t
  have hblocks : ∀ t : State, t.Quiet (if s.active then
      ((t.onLine LineController.passMs).onBal Balancer.passMs).onSettle SettlementUnit.passMs else t) := by
    intro t
    split
    · exact { records := pacedList_map tick_paced _ }
    · exact quiet_refl t
  exact hday.trans ((hcount _).trans (hblocks _))

/-! ### Moves -/

/-- What can happen to what the invariants read, each value event under the tests of its rule. -/
inductive Move : State → State → Prop
  | quiet {s t : State} (h : s.Quiet t) : Move s t
  | waits (s : State) (r : Reservation) : Move s (s.startWaiting r)
  | voucher (s : State) (serial amount : Nat) (hactive : s.ctl.state = .active) (hcap : s.overCap amount = false)
      (hspace : s.spaceForEntry = true) : Move s (s.acceptVoucher serial amount)
  | reserves (s : State) (items : List (Fin 8 × Nat)) (hactive : s.ctl.state = .active)
      (hcredit : batchTotal items ≤ s.acct.credit) (hroom : s.resv.table.length < 4) : Move s (s.grantReserved items)
  | charges (s : State) (items : List (Fin 8 × Nat)) (hactive : s.ctl.state = .active)
      (hcredit : batchTotal items ≤ s.acct.credit) : Move s (s.grantImmediate items)
  | confirms (s : State) (r : Reservation) (index : Nat) (i : ResItem) (st : ItemState)
      (hr : s.reservation r.id = some r) (hi : r.items[index]? = some i) (hi' : i.state = .granted)
      (hst : st = .printed ∨ st = .failed) : Move s (s.confirmItem r index i st)
  | expires (s : State) (r : Reservation) (hr : r ∈ s.resv.table) : Move s (s.expire r)
  | sells (s : State) (d : Fin 16) (n : Nat) (hactive : s.ctl.state = .active) (hn : n ≤ s.stock[d].onHand) :
      Move s (s.onDenom d fun x => { x with onHand := x.onHand - n, sold := x.sold + n })
  | delivers (s : State) (d : Fin 16) (n : Nat) (hactive : s.ctl.state = .active) (hcap : s.overStock d n = false)
      (hspace : s.spaceForEntry = true) : Move s (s.deliver d n)
  | adjusts (s : State) (d : Fin 16) (p : Nat) (hactive : s.ctl.state = .active) (hcap : s.overCount d p = false)
      (hspace : s.spaceForEntry = true) : Move s (s.adjust d p)
  | consigns (s : State) (k : Station) (d : Fin 16) (n : Nat) (hactive : s.ctl.state = .active)
      (htest : s.consignTest k d n = none) : Move s (s.consigned k d n)
  | gives (s : State) (k : Station) (g : Nat) (hactive : s.ctl.state = .active) (hroom : s.roomForRecord k = true)
      (hspace : s.spaceForGive = true) (hcap : s.ascendingTotal + g ≤ ascendingCap) (hg : g ≤ s.acct.credit) :
      Move s (s.gave k g)
  | receivesCredit (s : State) (g : Station) (serial : BitVec 16) (a : Nat) (hpark : s.ctl.state ≠ .parked)
      (hcap : s.receiptOver a = false) (hspace : s.spaceForEntry = true) : Move s (s.receiveCredit g serial a)
  | receivesStock (s : State) (g : Station) (serial : BitVec 16) (d : Fin 16) (n : Nat) (hpark : s.ctl.state ≠ .parked)
      (hcap : s.overStock d n = false) (hspace : s.spaceForEntry = true) : Move s (s.receiveStock g serial d n)
  | settles (s : State) (r : OutRecord) (hpark : s.ctl.state ≠ .parked)
      (hr : s.matched r.receiver r.serial = some r) : Move s (s.settleRecord r)
  | restores (s : State) (r : OutRecord) (hpark : s.ctl.state ≠ .parked)
      (hr : s.matched r.receiver r.serial = some r) : Move s (s.restoreRecord r)
  | strands (s : State) (r : OutRecord) (hr : s.matched r.receiver r.serial = some r) (hstate : r.state = .unsettled) :
      Move s (s.strand r)
  | audits (s : State) (q : Nat) : Move s (s.closeAudit q)
  | parks (s : State) : Move s s.park
  | resumes (s : State) : Move s s.resume
  | configures (s : State) (c : ConfigStore) (hstate : s.ctl.state = .unconfigured) :
      Move s (s.onCtl fun u => { u with config := c })
  | commits (s : State) (hstate : s.ctl.state = .unconfigured) : Move s s.commit
  | resets (s : State) (powerOn : Bool) : Move s (s.resetWork powerOn)

/-- A chain of moves. -/
inductive Moves (s : State) : State → Prop
  | none : Moves s s
  | more {t u : State} (before : Moves s t) (last : Move t u) : Moves s u

/-- What every move keeps, every chain of moves keeps. -/
theorem Moves.keep {P : State → Prop} (hP : ∀ s t, Move s t → P s → P t) {s t : State} (h : Moves s t) (hs : P s) : P t := by
  induction h with
  | none => exact hs
  | more _ hm ih => exact hP _ _ hm ih

variable {s}

theorem Moves.trans {t u : State} (h : Moves s t) (k : Moves t u) : Moves s u := by
  induction k with
  | none => exact h
  | more _ hm ih => exact .more ih hm

theorem Moves.one {t : State} (h : Move s t) : Moves s t := .more .none h
theorem Moves.quiet {t : State} (h : s.Quiet t) : Moves s t := .one (.quiet h)
/-- A move, then a quiet change. -/
theorem Moves.hushed {t u : State} (h : Move s t) (hq : t.Quiet u) : Moves s u := .more (.one h) (.quiet hq)

/-! ### What the owning blocks do -/

theorem supervised_moves {supv : Bool} {run : State → State × Answer} (h : ∀ s, Moves s (run s).1) (s : State) :
    Moves s (supervised supv run s).1 := by
  unfold supervised
  split
  · exact h s
  · exact .none

theorem whenActive_moves {run : State → State × Answer} (h : ∀ s, s.ctl.state = .active → Moves s (run s).1) (s : State) :
    Moves s (whenActive run s).1 := by
  unfold whenActive
  split
  · rename_i hs; exact h s hs
  · exact .none

theorem whenCommitted_moves {run : State → State × Answer} (h : ∀ s, Moves s (run s).1) (s : State) :
    Moves s (whenCommitted run s).1 := by
  unfold whenCommitted
  split
  · exact .none
  · exact h s

theorem whenOpened_moves {run : State → State × Answer} (h : ∀ s, Moves s (run s).1) (s : State) :
    Moves s (whenOpened run s).1 := by
  unfold whenOpened
  split
  · exact h s
  · exact .none

theorem readRegion_moves (r : Region) (index : Nat) (s : State) : Moves s (readRegion r index s).1 := by
  unfold readRegion
  split
  · exact .none
  split
  · exact .none
  split
  · exact .none
  · exact .quiet {}

theorem readAtRequest_moves (region : Byte) (index : BitVec 16) (s : State) : Moves s (readAtRequest region index s).1 := by
  unfold readAtRequest
  split
  · exact .none
  · exact readRegion_moves _ _ s

theorem grant_moves (items : List (Fin 8 × Nat)) (hactive : s.ctl.state = .active) (hroom : s.resv.table.length < 4) :
    Moves s (s.grant items).1 := by
  unfold State.grant
  split
  · exact .none
  rename_i hcredit
  split
  · exact .one (.charges s items hactive (Nat.not_lt.1 hcredit))
  · exact .one (.reserves s items hactive (Nat.not_lt.1 hcredit) hroom)

theorem imprintRequest_moves (items : List Item) (s : State) : Moves s (imprintRequest items s).1 := by
  unfold imprintRequest
  split
  · exact .none
  split
  · exact .none
  rename_i hactive
  split
  · exact .none
  split
  · exact .none
  split
  · exact .none
  split
  · exact .none
  rename_i hroom
  split
  · unfold State.itemRefusal
    simp only
    split
    · exact .quiet {}
    · exact .none
  · exact grant_moves _ (Classical.not_not.1 hactive) (Nat.not_le.1 hroom)

theorem outcomeOf_cases {code : Byte} {st : ItemState} (h : outcomeOf code = some st) : st = .printed ∨ st = .failed := by
  unfold outcomeOf at h
  split at h
  · exact .inl (Option.some.inj h).symm
  · split at h
    · exact .inr (Option.some.inj h).symm
    · exact nomatch h

/-- The reservation that holds an id is in the table, and has that id. -/
theorem reservation_spec {id : Nat} {r : Reservation} (h : s.reservation id = some r) :
    r ∈ s.resv.table ∧ r.id = id :=
  ⟨List.mem_of_find?_eq_some h, by simpa using List.find?_some h⟩

theorem confirmRequest_moves (id index outcome : Byte) (s : State) : Moves s (confirmRequest id index outcome s).1 := by
  unfold confirmRequest
  split
  · exact .none
  rename_i st hst
  split
  · exact .none
  split
  · exact .none
  rename_i r hr
  split
  · exact .none
  rename_i i hi
  split
  · exact .none
  · rename_i hstate
    have hid := (reservation_spec hr).2
    exact .one (.confirms s r _ i st (by rw [hid]; exact hr) hi (Classical.not_not.1 hstate) (outcomeOf_cases hst))

theorem sellRequest_moves (denom : Byte) (count : BitVec 16) (s : State) (hactive : s.ctl.state = .active) :
    Moves s (sellRequest denom count s).1 := by
  unfold sellRequest
  split
  · exact .none
  split
  · exact .none
  split
  · exact .none
  · rename_i hn
    exact .one (.sells s _ _ hactive (Nat.not_lt.1 hn))

theorem stockInRequest_moves (denom : Byte) (count : BitVec 16) (s : State) (hactive : s.ctl.state = .active) :
    Moves s (stockInRequest denom count s).1 := by
  unfold stockInRequest
  split
  · exact .none
  split
  · exact .quiet {}
  simp only
  split
  · exact .quiet {}
  rename_i hcap
  split
  · exact .none
  · rename_i hspace
    exact .one (.delivers s _ _ hactive (eq_false_of_ne_true hcap) (eq_true_of_ne_false hspace))

theorem countRequest_moves (denom : Byte) (physical : BitVec 16) (s : State) (hactive : s.ctl.state = .active) :
    Moves s (countRequest denom physical s).1 := by
  unfold countRequest
  split
  · exact .quiet {}
  simp only
  split
  · exact .quiet {}
  rename_i hcap
  split
  · exact .none
  split
  · exact .none
  · rename_i hspace
    exact .one (.adjusts s _ _ hactive (eq_false_of_ne_true hcap) (eq_true_of_ne_false hspace))

theorem consignRequest_moves (station denom : Byte) (count : BitVec 16) (s : State) (hactive : s.ctl.state = .active) :
    Moves s (consignRequest station denom count s).1 := by
  unfold consignRequest
  split
  · exact .none
  split
  · exact .none
  split
  · exact .quiet {}
  split
  · simp only [consignRefusal]
    split
    · exact .quiet {}
    · exact .none
  · rename_i htest
    simp only [consign_eq]
    exact .hushed (.consigns s _ _ _ hactive htest) (quiet_place _ _)

/-- A voucher with no code to refuse it passed the cap test and found journal space. -/
theorem voucherTest_none {branch : BitVec 16} {station : Byte} {serial amount check : BitVec 32}
    (h : s.voucherTest branch station serial amount check = none) :
    s.overCap amount.toNat = false ∧ s.spaceForEntry = true := by
  unfold State.voucherTest at h
  split at h
  · exact nomatch h
  split at h
  · exact nomatch h
  split at h
  · exact nomatch h
  split at h
  · exact nomatch h
  split at h
  · exact nomatch h
  rename_i hcap
  split at h
  · exact nomatch h
  · rename_i hspace
    exact ⟨eq_false_of_ne_true hcap, eq_true_of_ne_false hspace⟩

theorem voucherRequest_moves (branch : BitVec 16) (station : Byte) (serial amount check : BitVec 32) (s : State) :
    Moves s (voucherRequest branch station serial amount check s).1 := by
  unfold voucherRequest
  split
  · exact .none
  rename_i hactive
  split
  · exact .none
  split
  · rename_i htest
    obtain ⟨hcap, hspace⟩ := voucherTest_none htest
    exact .one (.voucher s _ _ (Classical.not_not.1 hactive) hcap hspace)
  · simp only
    split
    · exact .quiet {}
    · exact .none

theorem tariffSurchargeRequest_moves (target : Byte) (values : Vector (BitVec 16) 8) (s : State) :
    Moves s (tariffSurchargeRequest target values s).1 := by
  unfold tariffSurchargeRequest
  split
  · exact .quiet {}
  · exact .none

theorem tariffHeadRequest_moves (target rounding services bandCount : Byte) (factors : List (BitVec 24)) (s : State) :
    Moves s (tariffHeadRequest target rounding services bandCount factors s).1 := by
  unfold tariffHeadRequest
  split
  · split
    · exact .quiet {}
    · exact .quiet {}
  · exact .none

theorem tariffBandsRequest_moves (target first : Byte) (bands : List BandFields) (s : State) :
    Moves s (tariffBandsRequest target first bands s).1 := by
  unfold tariffBandsRequest
  split
  · exact .none
  split
  · split
    · unfold State.assemble
      simp only
      split
      · exact .quiet {}
      · exact .quiet {}
    · exact .quiet {}
  · exact .none

theorem tariffCloseRequest_moves (generation : Byte) (day : BitVec 16) (s : State) :
    Moves s (tariffCloseRequest generation day s).1 := by
  unfold tariffCloseRequest
  split
  · exact .none
  split
  · exact .quiet {}
  · exact .quiet (.trans (t := State.onTariff _ _) {} (quiet_tariffDay _))

theorem setDayRequest_moves (day : BitVec 16) (seconds : BitVec 32) (s : State) :
    Moves s (setDayRequest day seconds s).1 := by
  unfold setDayRequest
  split
  · exact .none
  split
  · exact .none
  split
  · exact .none
  split
  · exact .none
  · exact .quiet (quiet_setDay s _ _)

theorem configSetRequest_moves (item index : Byte) (value : BitVec 64) (s : State) :
    Moves s (configSetRequest item index value s).1 := by
  unfold configSetRequest
  split
  · exact .none
  rename_i hstate
  split
  · exact .none
  split
  · exact .quiet {}
  · exact .one (.configures s _ (Classical.not_not.1 hstate))

theorem configCommitRequest_moves (s : State) : Moves s (configCommitRequest s).1 := by
  unfold configCommitRequest
  split
  · exact .none
  rename_i hstate
  split
  · exact .none
  · exact .one (.commits s (Classical.not_not.1 hstate))

/-- The owning block of every request moves the part. -/
theorem runRequest_moves (supv : Bool) (r : Request) (s : State) : Moves s (runRequest supv r s).1 := by
  cases r with
  | status => exact .none
  | readAt region index => exact readAtRequest_moves _ _ s
  | readNext => exact readRegion_moves _ _ s
  | imprint items => exact imprintRequest_moves _ s
  | confirm id index outcome => exact confirmRequest_moves _ _ _ s
  | sell d c => exact whenActive_moves (sellRequest_moves d c) s
  | stockIn d c => exact supervised_moves (whenActive_moves (stockInRequest_moves d c)) s
  | count d p => exact supervised_moves (whenActive_moves (countRequest_moves d p)) s
  | consign k d c => exact supervised_moves (whenActive_moves (consignRequest_moves k d c)) s
  | voucher b k n a c => exact supervised_moves (voucherRequest_moves b k n a c) s
  | tariffOpen => exact supervised_moves (whenActive_moves fun t _ => .quiet {}) s
  | tariffSurcharge t vs =>
    exact supervised_moves (whenActive_moves fun u _ => whenOpened_moves (tariffSurchargeRequest_moves t vs) u) s
  | tariffHead t r sv bc fs =>
    exact supervised_moves (whenActive_moves fun u _ => whenOpened_moves (tariffHeadRequest_moves t r sv bc fs) u) s
  | tariffBands t f bs =>
    exact supervised_moves (whenActive_moves fun u _ => whenOpened_moves (tariffBandsRequest_moves t f bs) u) s
  | tariffOther _ _ _ =>
    exact supervised_moves (whenActive_moves fun u _ => whenOpened_moves (fun _ => .none) u) s
  | tariffClose g d => exact supervised_moves (whenActive_moves fun t _ => tariffCloseRequest_moves g d t) s
  | auditClose q => exact supervised_moves (whenCommitted_moves fun t => .one (.audits t _)) s
  | setDay d sec => exact supervised_moves (setDayRequest_moves d sec) s
  | park => exact supervised_moves (whenCommitted_moves fun t => .one (.parks t)) s
  | resume => exact supervised_moves (whenCommitted_moves fun t => .one (.resumes t)) s
  | configSet i n v => exact supervised_moves (configSetRequest_moves i n v) s
  | configCommit => exact supervised_moves configCommitRequest_moves s

theorem takeRequest_moves {run : State → State × Answer} (h : ∀ s, Moves s (run s).1) (frame : List Byte)
    (supv : Option Bool) (s : State) : Moves s (s.takeRequest frame supv run) := by
  unfold State.takeRequest
  split
  · exact .none
  split
  · exact .quiet {}
  · exact Moves.trans (.quiet {}) ((h (s.acceptRequest frame supv)).trans (.quiet {}))

/-- A request given by its fields moves the part. -/
theorem hostRequest_moves {r : Request} {run : State → State × Answer} (h : ∀ s, Moves s (run s).1) (supv : Option Bool)
    (s : State) : Moves s (s.hostRequest r supv run) := by
  refine takeRequest_moves (fun t => ?_) _ _ s
  split
  · exact h t
  · exact .none

theorem transaction_moves (frame : List Byte) (supv : Bool) (s : State) : Moves s (s.transaction frame supv) := by
  unfold State.transaction
  split
  · exact .none
  · refine takeRequest_moves (fun t => ?_) _ _ s
    unfold frameRequest
    split
    · exact .none
    · exact runRequest_moves _ _ t

/-! ### What the events do -/

/-- Behind the first entry of an id, the rest of a list stands unchanged when that entry leaves. -/
theorem sublist_erase_of_cons {r : Reservation} {rs l : List Reservation} (hl : (r :: rs).Sublist l) :
    rs.Sublist (l.eraseP (·.id == r.id)) := by
  induction l with
  | nil => exact nomatch hl
  | cons x xs ih =>
    cases hx : x.id == r.id with
    | true =>
      simp only [List.eraseP_cons, hx, cond_true]
      cases hl with
      | cons _ hl => exact (List.sublist_cons_self r rs).trans hl
      | cons_cons _ hl => exact hl
    | false =>
      simp only [List.eraseP_cons, hx, cond_false]
      cases hl with
      | cons _ hl => exact (ih hl).cons x
      | cons_cons _ hl => simp at hx

/-- Expiring reservations that stand in the table in that order: each stands there when its turn comes. -/
theorem expire_foldl_moves {rs : List Reservation} (s : State) (h : rs.Sublist s.resv.table) :
    Moves s (rs.foldl (fun t r => t.expire r) s) := by
  induction rs generalizing s with
  | nil => exact .none
  | cons r rs ih =>
    refine Moves.trans (.one (.expires s r (h.subset List.mem_cons_self))) (ih _ ?_)
    have htable : (s.expire r).resv.table = s.resv.table.eraseP (·.id == r.id) := by
      rw [expire_noticed, closeAsPrinted_eq]
      rfl
    rw [htable]
    exact sublist_erase_of_cons h

theorem deadlineOf_moves (id : Nat) (s : State) : Moves s (s.deadlineOf id) := by
  unfold State.deadlineOf
  split
  · rename_i r hr
    split
    · split
      · exact .one (.waits s r)
      · exact .one (.expires s r (reservation_spec hr).1)
    · exact .none
  · exact .none

theorem hardLimitOf_moves (id : Nat) (s : State) : Moves s (s.hardLimitOf id) := by
  unfold State.hardLimitOf
  split
  · rename_i r hr
    split
    · exact .one (.expires s r (reservation_spec hr).1)
    · exact .none
  · exact .none

theorem takeTake_moves (k : Station) (a : Nat) (s : State) : Moves s (s.takeTake k a) := by
  unfold State.takeTake
  simp only
  split
  · exact .quiet (quiet_place _ _)
  rename_i hactive
  split
  · exact .quiet (quiet_place _ _)
  rename_i hroom
  split
  · exact .quiet (quiet_place _ _)
  split
  · exact .quiet (quiet_place _ _)
  rename_i hspace
  split
  · exact .quiet (.trans (t := s.setLimit) {} (quiet_place _ _))
  · rename_i hcap
    rw [giveCredit_eq]
    refine .hushed (.gives s k _ (Classical.not_not.1 hactive) (eq_true_of_ne_false hroom)
      (eq_true_of_ne_false hspace) (Nat.not_lt.1 hcap) ?_) (quiet_place _ _)
    exact Nat.le_trans (Nat.min_le_right _ _) (Nat.sub_le _ _)

/-- The record that an answer matches is found again under its own receiver and serial. -/
theorem matched_self {k : Station} {serial : BitVec 16} {r : OutRecord} (h : s.matched k serial = some r) :
    r.receiver = k ∧ r.serial = serial ∧ s.matched r.receiver r.serial = some r := by
  have hr := List.find?_some h
  simp only [OutRecord.isOf, Bool.and_eq_true, beq_iff_eq] at hr
  refine ⟨hr.1, hr.2, ?_⟩
  rw [hr.1, hr.2]
  exact h

theorem answerSettles_moves (k : Station) (serial : BitVec 16) (s : State) : Moves s (s.answerSettles k serial) := by
  unfold State.answerSettles
  split
  · rename_i r hr
    split
    · exact .none
    · rename_i hpark
      exact .one (.settles s r hpark (matched_self hr).2.2)
  · exact .none

theorem answerRestores_moves (k : Station) (serial : BitVec 16) (s : State) : Moves s (s.answerRestores k serial) := by
  unfold State.answerRestores
  split
  · rename_i r hr
    split
    · exact .none
    · rename_i hpark
      exact .one (.restores s r hpark (matched_self hr).2.2)
  · exact .none

theorem answerDefers_moves (k : Station) (serial : BitVec 16) (s : State) : Moves s (s.answerDefers k serial) := by
  unfold State.answerDefers
  split
  · rename_i r hr
    split
    · rename_i hstate
      exact .one (.strands s r (matched_self hr).2.2 hstate)
    · exact .none
  · exact .none

/-- The record to a receiver is the first under its receiver and serial too. -/
theorem matched_of_receiver {k : Station} {r : OutRecord} (h : s.settle.records.find? (·.receiver == k) = some r) :
    s.matched r.receiver r.serial = some r := by
  obtain ⟨hk, a, b, hab, ha⟩ := List.find?_eq_some_iff_append.1 h
  rw [beq_iff_eq] at hk
  rw [State.matched, List.find?_eq_some_iff_append]
  refine ⟨by simp [OutRecord.isOf], a, b, hab, fun x hx => ?_⟩
  have := ha x hx
  rw [Bool.not_eq_true'] at this
  rw [OutRecord.isOf, hk, this]
  rfl

theorem waitRunsOut_moves {r : OutRecord} (s : State) (hr : s.matched r.receiver r.serial = some r)
    (hstate : r.state = .unsettled) : Moves s (s.waitRunsOut r) := by
  unfold State.waitRunsOut
  split
  · refine .quiet (.trans (t := State.onSettle _ _) { records := ?_ } (quiet_place _ _))
    refine updateRecord_resent_paced fun x hx => ?_
    obtain rfl : r = x := Option.some.inj (hr.symm.trans hx)
    exact hstate
  · exact .one (.strands s r hr hstate)

theorem newCredit_moves (g : Station) (serial : BitVec 16) (a : Nat) (s : State) (hpark : s.ctl.state ≠ .parked)
    (hspace : s.spaceForEntry = true) : Moves s (s.newCredit g serial a) := by
  unfold State.newCredit
  split
  · exact .quiet ((quiet_voidGive s _ _).trans (quiet_giveOutcome _ _ _))
  split
  · exact .quiet (.trans (t := s.setLimit) {} ((quiet_voidGive _ _ _).trans (quiet_giveOutcome _ _ _)))
  · rename_i hcap
    exact .hushed (.receivesCredit s g serial a hpark (eq_false_of_ne_true hcap) hspace)
      ((quiet_reply _ _ _ _).trans (quiet_giveOutcome _ _ _))

/-- A stock receipt that is accepted passes no bound (R80). -/
theorem judgeStock_accepted {index count face : Nat} {d : Fin 16} (h : s.judgeStock index count face = .accepted d) :
    s.overStock d count = false := by
  unfold State.judgeStock at h
  split at h
  · exact nomatch h
  split at h
  · exact nomatch h
  split at h
  · exact nomatch h
  · rename_i hcap
    obtain rfl := StockJudgement.accepted.inj h
    exact eq_false_of_ne_true hcap

theorem newStock_moves (g : Station) (serial : BitVec 16) (index count face : Nat) (s : State)
    (hpark : s.ctl.state ≠ .parked) (hspace : s.spaceForEntry = true) :
    Moves s (s.newStock g serial index count face) := by
  unfold State.newStock
  split
  · exact .quiet (quiet_voidGive s _ _)
  split
  · exact .quiet (quiet_voidGive s _ _)
  · exact .quiet (.trans (t := s.setLimit) {} (quiet_voidGive _ _ _))
  · rename_i d hd
    exact .hushed (.receivesStock s g serial d count hpark (judgeStock_accepted hd) hspace) (quiet_reply _ _ _ _)

theorem takeGive_moves (g : Station) (serial : BitVec 16) (body : GiveBody) (s : State) :
    Moves s (s.takeGive g serial body) := by
  unfold State.takeGive
  split
  · exact .none
  · exact .quiet (quiet_reply s _ _ _)
  · exact .quiet (quiet_reply s _ _ _)
  split
  · exact .quiet (quiet_deferGive s _ _ _)
  rename_i hpark
  split
  · exact .quiet (quiet_deferGive s _ _ _)
  rename_i hspace
  split
  · exact newCredit_moves _ _ _ s hpark (eq_true_of_ne_false hspace)
  · exact newStock_moves _ _ _ _ _ s hpark (eq_true_of_ne_false hspace)

theorem quiet_holdReset (s : State) : s.Quiet s.holdReset := by
  rw [holdReset_eq]
  exact {}

theorem formResponse_quiet (s : State) : s.Quiet s.formResponse := by
  unfold State.formResponse
  split
  · exact quiet_refl s
  · rename_i a _
    cases a with
    | result _ _ => exact {}
    | statusReport => exact {}
    | setDayReport _ _ _ => exact {}

/-! ### Every step -/

/-- The state an outcome goes on with was reached by moves. -/
def movesTo (s : State) (o : Host.Outcome State Fault Refusal) : Prop := ∃ t, o = .next t ∧ Moves s t

theorem movesTo_next {t : State} (h : Moves s t) : movesTo s (.next t) := ⟨t, rfl, h⟩

/-- An event that acts only under a condition. -/
theorem movesTo_if {c : Prop} [Decidable c] {t : State} (h : c → Moves s t) : movesTo s (.next (if c then t else s)) := by
  split
  · rename_i hc
    exact movesTo_next (h hc)
  · exact movesTo_next .none

/-- A frame row: a block takes its frame and acts, or nothing happens. -/
theorem frameRow_moves {b : Handler} {act : State → State} (h : ∀ t, Moves t (act t)) (s : State) :
    Moves s (act (s.frameTakenBy b)) :=
  Moves.trans (.quiet (quiet_frameTakenBy s b)) (h _)

/-- Every command goes on, and by moves. -/
theorem exec_movesTo (c : Instr) (s : State) : movesTo s (exec c s) := by
  cases c with
  | requestOverrun => exact movesTo_if fun _ => .quiet {}
  | badFrame frame supv => exact movesTo_next (transaction_moves frame supv s)
  | fetch => exact movesTo_next .none
  | status => exact movesTo_next (hostRequest_moves (runRequest_moves true .status) none s)
  | readAt region index => exact movesTo_next (hostRequest_moves (readAtRequest_moves region index) none s)
  | readNext => exact movesTo_next (hostRequest_moves (runRequest_moves true .readNext) none s)
  | imprint items => exact movesTo_next (hostRequest_moves (imprintRequest_moves items) none s)
  | confirm id index outcome => exact movesTo_next (hostRequest_moves (confirmRequest_moves id index outcome) none s)
  | sell d n => exact movesTo_next (hostRequest_moves (runRequest_moves true (.sell d n)) none s)
  | stockIn supv d n => exact movesTo_next (hostRequest_moves (runRequest_moves supv (.stockIn d n)) (some supv) s)
  | count supv d p => exact movesTo_next (hostRequest_moves (runRequest_moves supv (.count d p)) (some supv) s)
  | consign supv k d n => exact movesTo_next (hostRequest_moves (runRequest_moves supv (.consign k d n)) (some supv) s)
  | voucher supv b k n a ch =>
    exact movesTo_next (hostRequest_moves (runRequest_moves supv (.voucher b k n a ch)) (some supv) s)
  | tariffOpen supv => exact movesTo_next (hostRequest_moves (runRequest_moves supv .tariffOpen) (some supv) s)
  | tariffClassSurcharge supv t vs =>
    exact movesTo_next (hostRequest_moves (runRequest_moves supv (.tariffSurcharge t vs)) (some supv) s)
  | tariffClassHead supv t r sv bc fs =>
    exact movesTo_next (hostRequest_moves (runRequest_moves supv (.tariffHead t r sv bc fs)) (some supv) s)
  | tariffClassBands supv t f bs =>
    exact movesTo_next (hostRequest_moves (runRequest_moves supv (.tariffBands t f bs)) (some supv) s)
  | tariffClose supv g d => exact movesTo_next (hostRequest_moves (runRequest_moves supv (.tariffClose g d)) (some supv) s)
  | auditClose supv q => exact movesTo_next (hostRequest_moves (runRequest_moves supv (.auditClose q)) (some supv) s)
  | setDay supv d sec => exact movesTo_next (hostRequest_moves (runRequest_moves supv (.setDay d sec)) (some supv) s)
  | park supv => exact movesTo_next (hostRequest_moves (runRequest_moves supv .park) (some supv) s)
  | resume supv => exact movesTo_next (hostRequest_moves (runRequest_moves supv .resume) (some supv) s)
  | configSet supv i n v => exact movesTo_next (hostRequest_moves (runRequest_moves supv (.configSet i n v)) (some supv) s)
  | configCommit supv => exact movesTo_next (hostRequest_moves (runRequest_moves supv .configCommit) (some supv) s)
  | deadline id => exact movesTo_if fun _ => deadlineOf_moves _ s
  | hardLimit id => exact movesTo_if fun _ => hardLimitOf_moves _ s
  | pbusyAsserted => exact movesTo_next (.quiet {})
  | pbusyReleased =>
    refine movesTo_next ?_
    split
    · exact Moves.trans (.quiet (t := { s with pbusy := false }) {})
        (expire_foldl_moves _ List.filter_sublist)
    · exact .quiet {}
  | dayAdvance =>
    refine movesTo_if fun _ => ?_
    split
    · exact .quiet (quiet_dayAdvance s)
    · exact .quiet {}
  | rollTick order => exact movesTo_if fun _ => .quiet (quiet_rollTick s order)
  | backoffWaitEnd => exact movesTo_next .none
  | balancerWake => exact movesTo_if fun _ => .quiet (.trans (t := State.onBal _ _) {} (quiet_startTest _))
  | offerWindow => exact movesTo_if fun _ => .quiet (quiet_pick s)
  | takeWait => exact movesTo_if fun _ => .quiet (quiet_endTakeWait s)
  | answerWait k =>
    refine movesTo_next ?_
    split
    · rename_i r _ hr
      split
      · rename_i hwaits
        simp only [OutRecord.waits, Bool.and_eq_true, beq_iff_eq] at hwaits
        exact waitRunsOut_moves s (matched_of_receiver hr) hwaits.1
      · exact .none
    · exact .none
  | attempt => exact movesTo_if fun _ => .quiet (quiet_startAttempt s)
  | arbitrationLost => exact movesTo_if fun _ => .quiet (quiet_loseArbitration s)
  | attemptAcknowledged => exact movesTo_if fun _ => .quiet (quiet_acknowledge s)
  | attemptFailed => exact movesTo_if fun _ => .quiet (quiet_failAttempt s)
  | frameArrival identifier data => exact movesTo_if fun _ => .quiet (quiet_arrive s identifier data)
  | frameTaken => exact movesTo_if fun _ => .quiet (quiet_takeFront s)
  | peerAbsence k => exact movesTo_if fun _ => .quiet (quiet_onPeer s _ _)
  | callFrame =>
    refine movesTo_next ?_
    split
    · exact frameRow_moves (fun t => .quiet (quiet_takeCall t _ _)) s
    · exact .none
  | takeFrame =>
    refine movesTo_next ?_
    split
    · exact frameRow_moves (takeTake_moves _ _) s
    · exact .none
  | offerFrame =>
    refine movesTo_next ?_
    split
    · exact frameRow_moves (fun t => .quiet (t := t.onBal _) {}) s
    · exact .none
  | noneFrame =>
    refine movesTo_next ?_
    split
    · exact frameRow_moves (fun t => .quiet (t := t.onBal _) {}) s
    · exact .none
  | giveFrame =>
    refine movesTo_next ?_
    split
    · exact frameRow_moves (takeGive_moves _ _ _) s
    · exact .none
  | gotFrame =>
    refine movesTo_next ?_
    split
    · exact frameRow_moves (answerSettles_moves _ _) s
    · exact .none
  | haveFrame =>
    refine movesTo_next ?_
    split
    · exact frameRow_moves (answerSettles_moves _ _) s
    · exact .none
  | voidFrame =>
    refine movesTo_next ?_
    split
    · exact frameRow_moves (answerRestores_moves _ _) s
    · exact .none
  | nohaveFrame =>
    refine movesTo_next ?_
    split
    · exact frameRow_moves (answerRestores_moves _ _) s
    · exact .none
  | deferFrame =>
    refine movesTo_next ?_
    split
    · exact frameRow_moves (answerDefers_moves _ _) s
    · exact .none
  | queryFrame =>
    refine movesTo_next ?_
    split
    · exact frameRow_moves (fun t => .quiet (quiet_takeQuery t _ _)) s
    · exact .none
  | resetn =>
    exact movesTo_if fun _ => Moves.trans (.quiet (quiet_holdReset s)) (.one (.resets _ _))
  | powerOnReset => exact movesTo_next (.one (.resets s true))
  | powerLoss midRecord => exact movesTo_if fun _ => .quiet {}
  | backupLoss =>
    refine movesTo_next ?_
    split
    · exact .none
    · exact .quiet {}
  | responseFormed => exact movesTo_if fun _ => .quiet (formResponse_quiet s)
  | silenceSecond => exact movesTo_if fun _ => .quiet {}

/-- The part's own clock moves nothing but what is quiet, and the queue. -/
theorem idle_moves (s : State) : ∃ q, Moves { s with pending := q } s.idle := by
  unfold State.idle
  split
  · exact ⟨s.pending, .quiet (quiet_passMs s)⟩
  · rename_i i is _
    exact ⟨i :: is, .quiet {}⟩

/-- Every step is a chain of moves, from some queue. -/
theorem step_moves {s t : State} (h : step s = .next t) : ∃ q, Moves { s with pending := q } t := by
  unfold step at h
  split at h
  · obtain rfl := Host.Outcome.next.inj h
    exact idle_moves s
  · rename_i c rest _
    obtain ⟨u, hu, hm⟩ := exec_movesTo c { s with pending := rest }
    obtain rfl := Host.Outcome.next.inj (h.symm.trans hu)
    exact ⟨rest, hm⟩

/-- What every move keeps, and the queue does not touch, every step keeps. -/
theorem step_keeps {P : State → Prop} (hP : ∀ s t, Move s t → P s → P t) (hqueue : ∀ s q, P s → P { s with pending := q })
    {s t : State} (hs : P s) (h : step s = .next t) : P t := by
  obtain ⟨q, hm⟩ := step_moves h
  exact hm.keep hP (hqueue s q hs)

end Sys2Proof.Machine
end

section
/-! PROOFS. The journal, the drawer and the line keep their invariants: one rule per way a move can change what they read
(R69, R70, R84 to R90, R100 to R106, R141). -/

namespace Sys2Proof.Machine

/-! ### The outbound list -/

/-- What a paced change of the outbound list leaves as it was. -/
theorem pacedList_map_eq {α : Type} {f : OutRecord → α} (hf : ∀ a b : OutRecord, a.paced b → f b = f a)
    {a b : List OutRecord} (h : PacedList a b) : b.map f = a.map f := by
  induction h with
  | nil => rfl
  | cons hx _ ih => rw [List.map_cons, List.map_cons, hf _ _ hx, ih]

theorem pacedList_credit {a b : List OutRecord} (h : PacedList a b) : b.map OutRecord.credit = a.map OutRecord.credit :=
  pacedList_map_eq (fun x y hxy => by unfold OutRecord.credit; rw [hxy.2.1]) h

theorem pacedList_stamps {a b : List OutRecord} (h : PacedList a b) (d : Fin 16) :
    b.map (·.stamps d) = a.map (·.stamps d) :=
  pacedList_map_eq (fun x y hxy => by unfold OutRecord.stamps; rw [hxy.2.1]) h

theorem pacedList_receiver {a b : List OutRecord} (h : PacedList a b) : b.map (·.receiver) = a.map (·.receiver) :=
  pacedList_map_eq (fun _ _ hxy => hxy.1) h

theorem pacedList_state {a b : List OutRecord} (h : PacedList a b) : b.map (·.state) = a.map (·.state) :=
  pacedList_map_eq (fun _ _ hxy => hxy.2.2.1) h

theorem eraseP_append_cons {α : Type} {p : α → Bool} {a b : List α} {x : α} (ha : ∀ y ∈ a, p y = false)
    (hx : p x = true) : (a ++ x :: b).eraseP p = a ++ b := by
  rw [List.eraseP_append_right _ (fun y hy => by simp [ha y hy]), List.eraseP_cons_of_pos hx]

theorem updateRecord_append_cons {p : OutRecord → Bool} {f : OutRecord → OutRecord} {a b : List OutRecord} {r : OutRecord}
    (ha : ∀ y ∈ a, p y = false) (hr : p r = true) : updateRecord p f (a ++ r :: b) = a ++ f r :: b := by
  induction a with
  | nil => simp [updateRecord, hr]
  | cons y ys ih =>
    rw [List.cons_append, updateRecord, if_neg (by simp [ha y List.mem_cons_self]),
      ih fun z hz => ha z (List.mem_cons_of_mem _ hz)]
    rfl

theorem OutRecord.isOf_self (r : OutRecord) : r.isOf r.receiver r.serial = true := by simp [OutRecord.isOf]

/-- The matched record splits the outbound list, and closing or stranding it acts where it stands. -/
theorem matched_split {s : State} {r : OutRecord} (h : s.matched r.receiver r.serial = some r) :
    ∃ a b, s.settle.records = a ++ r :: b ∧ (s.settle.without r).records = a ++ b ∧
      updateRecord (·.isOf r.receiver r.serial) OutRecord.stranded s.settle.records = a ++ r.stranded :: b := by
  obtain ⟨-, a, b, hab, ha⟩ := List.find?_eq_some_iff_append.1 h
  have ha' : ∀ y ∈ a, y.isOf r.receiver r.serial = false := fun y hy => by simpa using ha y hy
  refine ⟨a, b, hab, ?_, ?_⟩
  · rw [SettlementUnit.without, hab, eraseP_append_cons ha' r.isOf_self]
  · rw [hab, updateRecord_append_cons ha' r.isOf_self]

/-! ### The noticed state -/

section
variable (s : State)
@[simp] theorem State.noticed_host : s.noticed.host = s.host := rfl
@[simp] theorem State.noticed_acct : s.noticed.acct = s.acct := rfl
@[simp] theorem State.noticed_resv : s.noticed.resv = s.resv := rfl
@[simp] theorem State.noticed_stock : s.noticed.stock = s.stock := rfl
@[simp] theorem State.noticed_journal : s.noticed.journal = s.journal := rfl
@[simp] theorem State.noticed_line : s.noticed.line = s.line := rfl
@[simp] theorem State.noticed_settle : s.noticed.settle = s.settle := rfl
end

/-! ### The reset -/

/-- The state of a reset after its closures, before the timebase (R67, R160). -/
def State.resetClosed (s : State) : State := s.rebuild.strandAll.relatch.closeReservations

theorem relatch_eq (s : State) : s.relatch = { s with host := { s.host with alerts := s.relatch.host.alerts } } := by
  unfold State.relatch
  split
  · simp only [latchIf_eq]
  · rfl

/-- Closing every reservation of a list as printed. -/
theorem closeAll_eq (rs : List Reservation) (s : State) :
    rs.foldl (fun t r => t.closeAsPrinted r) s = { s with
      acct := { s.acct with
        held := s.acct.held - (rs.map Reservation.grantedValue).sum,
        used := s.acct.used + (rs.map Reservation.grantedValue).sum },
      resv := { s.resv with
        table := rs.foldl (fun l r => l.eraseP (·.id == r.id)) s.resv.table,
        totals := (rs.flatMap Reservation.grantedItems).foldl (fun t i => printedIn t i.cls i.value) s.resv.totals } } := by
  induction rs generalizing s with
  | nil => rfl
  | cons r rs ih =>
    rw [List.foldl_cons, ih, List.map_cons, List.sum_cons, List.flatMap_cons, List.foldl_append, closeAsPrinted_totals,
      closeAsPrinted_eq]
    simp only [Nat.sub_sub, Nat.add_assoc, List.foldl_cons]

theorem erase_self (rs : List Reservation) : rs.foldl (fun l r => l.eraseP (·.id == r.id)) rs = [] := by
  induction rs with
  | nil => rfl
  | cons r rs ih =>
    rw [List.foldl_cons, List.eraseP_cons_of_pos (by simp)]
    exact ih

/-- The reset closures charge HELD and empty the table (R67). -/
theorem closeReservations_eq (s : State) :
    s.closeReservations = { s with
      acct := { s.acct with
        held := s.acct.held - (s.resv.table.map Reservation.grantedValue).sum,
        used := s.acct.used + (s.resv.table.map Reservation.grantedValue).sum },
      resv := {
        table := [], nextId := 1, elapsedMs := 0,
        totals := (s.resv.table.flatMap Reservation.grantedItems).foldl (fun t i => printedIn t i.cls i.value)
          s.resv.totals },
      host := { s.host with alerts :=
        if !s.resv.table.isEmpty then s.host.alerts.latch .reservationExpired else s.host.alerts } } := by
  rw [State.closeReservations, closeAll_eq, latchIf_eq, erase_self]
  rfl

theorem quiet_markTest (s : State) : s.Quiet s.markTest := by
  unfold State.markTest
  split
  · exact quiet_refl s
  · split
    · exact {}
    · exact {}

theorem quiet_catchUp (s : State) : s.Quiet s.catchUp := by
  unfold State.catchUp
  split
  · exact (quiet_raiseInspection s _).trans {}
  · exact quiet_refl s

theorem quiet_tariffReset (s : State) : s.Quiet s.tariffReset := by
  unfold State.tariffReset
  split
  · exact quiet_refl s
  · exact quiet_tariffDay s

/-- After the closures of a reset only the timebase, the tariff store and the host port work on, until station control looks
at its state (R170, R173). -/
theorem resetWork_split (s : State) (powerOn : Bool) :
    ∃ (u : State) (g : Nat), s.resetClosed.Quiet u ∧
      s.resetWork powerOn = (u.parkAtReset g).onHost fun h => { h with rdy := true } := by
  refine ⟨_, _, ?_, rfl⟩
  have hmark : s.resetClosed.Quiet (if powerOn then s.resetClosed.markTest else s.resetClosed) := by
    split
    · exact quiet_markTest _
    · exact quiet_refl _
  exact hmark.trans ((quiet_catchUp _).trans (quiet_tariffReset _))

/-- Station control's look at its state after a reset changes station control alone, and draws (R170). -/
theorem parkAtReset_eq (s : State) (g : Nat) :
    s.parkAtReset g = { s with ctl := (s.parkAtReset g).ctl, freeDraws := (s.parkAtReset g).freeDraws } := by
  unfold State.parkAtReset
  split <;> rfl

/-! ### The journal -/

/-- The journal in order, with open records to these receivers (R84, R87, R89, R141). -/
def Journal.SoundWith (j : Journal) (receivers : List Station) : Prop :=
  j.entries.Pairwise (fun a b => a.seq < b.seq) ∧ (∀ e ∈ j.entries, e.seq < j.nextSeq) ∧ 1 ≤ j.nextSeq ∧
  j.nextSeq + receivers.length ≤ 4294967295 ∧ j.entries.length + receivers.length ≤ 240 ∧ receivers.length ≤ 4 ∧
  receivers.Nodup

theorem journalSound_iff (s : State) :
    s.JournalSound ↔ s.journal.SoundWith (s.settle.records.map (·.receiver)) := by
  rw [Journal.SoundWith, List.length_map]
  exact Iff.rfl

/-- The journal has space for an entry (R89). -/
theorem spaceForEntry_iff (s : State) :
    s.spaceForEntry = true ↔ s.journal.entries.length + s.settle.records.length + 1 ≤ 240 ∧
      s.journal.nextSeq + s.settle.records.length ≤ 4294967294 := by
  rw [State.spaceForEntry, Bool.and_eq_true, decide_eq_true_eq, decide_eq_true_eq]
  rfl

/-- The journal has space for a give (R89). -/
theorem spaceForGive_iff (s : State) :
    s.spaceForGive = true ↔ s.journal.entries.length + s.settle.records.length + 2 ≤ 240 ∧
      s.journal.nextSeq + s.settle.records.length + 1 ≤ 4294967294 := by
  rw [State.spaceForGive, Bool.and_eq_true, decide_eq_true_eq, decide_eq_true_eq]
  rfl

/-- There is room for a record to k: none is open to it, and fewer than four are open (R78, R132). -/
theorem roomForRecord_iff (s : State) (k : Station) :
    s.roomForRecord k = true ↔ (∀ r ∈ s.settle.records, r.receiver ≠ k) ∧ s.settle.records.length < 4 := by
  rw [State.roomForRecord, Bool.and_eq_true, decide_eq_true_eq, Bool.not_eq_true', State.recordTo, List.any_eq_false]
  simp only [beq_iff_eq, ne_eq]

section
variable {s : State} {kind : EntryKind} {peer : Option Station} {serial : Option Nat} {denom : Option (Fin 16)}
  {direction : Option Direction} {amount : Nat} {balance : Option Nat}

/-- One more entry, with other receivers: the order is kept, and the space is what the counts say (R87, R89). -/
theorem Journal.SoundWith.append {ks ks' : List Station} (h : s.journal.SoundWith ks)
    (hseq : s.journal.nextSeq + 1 + ks'.length ≤ 4294967295)
    (hspace : s.journal.entries.length + 1 + ks'.length ≤ 240) (hfour : ks'.length ≤ 4) (hks' : ks'.Nodup) :
    (s.journalWith kind peer serial denom direction amount balance).SoundWith ks' := by
  obtain ⟨horder, hnext, hone, -, -, -, -⟩ := h
  refine ⟨?_, ?_, ?_, hseq, ?_, hfour, hks'⟩
  · simp only [State.journalWith, List.pairwise_append, List.pairwise_singleton, List.mem_singleton, forall_eq, true_and]
    exact ⟨horder, hnext⟩
  · intro e he
    simp only [State.journalWith, List.mem_append, List.mem_singleton] at he ⊢
    rcases he with he | rfl
    · exact Nat.lt_succ_of_lt (hnext e he)
    · exact Nat.lt_succ_self _
  · exact Nat.le_succ_of_le hone
  · simpa only [State.journalWith, List.length_append, List.length_singleton] using hspace

/-- With space for an entry an entry may be appended (R89). -/
theorem Journal.SoundWith.entry (h : s.JournalSound) (hspace : s.spaceForEntry = true) :
    (s.journalWith kind peer serial denom direction amount balance).SoundWith (s.settle.records.map (·.receiver)) := by
  rw [spaceForEntry_iff] at hspace
  have hs := (journalSound_iff s).1 h
  refine hs.append ?_ ?_ hs.2.2.2.2.2.1 hs.2.2.2.2.2.2 <;> rw [List.length_map] <;> omega

/-- With space for a give and room for a record to k, an entry may be appended and the record opened (R89, R141). -/
theorem Journal.SoundWith.give {k : Station} (h : s.JournalSound) (hspace : s.spaceForGive = true)
    (hroom : s.roomForRecord k = true) :
    (s.journalWith kind peer serial denom direction amount balance).SoundWith
      (s.settle.records.map (·.receiver) ++ [k]) := by
  rw [spaceForGive_iff] at hspace
  rw [roomForRecord_iff] at hroom
  have hs := (journalSound_iff s).1 h
  obtain ⟨-, -, -, -, -, -, hnodup⟩ := id hs
  refine hs.append ?_ ?_ ?_ ?_
  · simp only [List.length_append, List.length_map, List.length_singleton]; omega
  · simp only [List.length_append, List.length_map, List.length_singleton]; omega
  · simp only [List.length_append, List.length_map, List.length_singleton]; omega
  · refine List.nodup_append.2 ⟨hnodup, List.nodup_cons.2 ⟨List.not_mem_nil, List.nodup_nil⟩, fun x hx y hy => ?_⟩
    obtain ⟨r, hr, rfl⟩ := List.mem_map.1 hx
    rw [List.mem_singleton.1 hy]
    exact hroom.1 r hr

/-- A closing entry takes the place that its record kept (R89). -/
theorem Journal.SoundWith.close {r : OutRecord} (h : s.JournalSound) (hr : s.matched r.receiver r.serial = some r) :
    (s.journalWith kind peer serial denom direction amount balance).SoundWith
      ((s.settle.without r).records.map (·.receiver)) := by
  obtain ⟨a, b, hab, hwithout, -⟩ := matched_split hr
  rw [journalSound_iff, hab] at h
  obtain ⟨-, -, -, hseq, hspace, hfour, hnodup⟩ := id h
  rw [hwithout]
  simp only [List.map_append, List.map_cons, List.length_append, List.length_cons, List.length_map] at hseq hspace hfour
  refine h.append ?_ ?_ ?_ ?_
  · simp only [List.length_append, List.length_map]; omega
  · simp only [List.length_append, List.length_map]; omega
  · simp only [List.length_append, List.length_map]; omega
  · exact hnodup.sublist (((List.sublist_cons_self r b).append_left a).map _)

end

/-- The audit close leaves a journal in order (R95). -/
theorem closeAudit_journalSound {s : State} (h : s.JournalSound) (q : Nat) : (s.closeAudit q).JournalSound := by
  obtain ⟨horder, hnext, hone, hseq, hspace, hfour, hnodup⟩ := h
  refine ⟨horder.sublist List.filter_sublist, fun e he => hnext e (List.mem_filter.1 he).1, hone, hseq, ?_, hfour, hnodup⟩
  exact Nat.le_trans (Nat.add_le_add_right (List.length_filter_le _ _) _) hspace

/-- Every move keeps the journal sound. -/
theorem move_journalSound (s t : State) (hm : Move s t) (h : s.JournalSound) : t.JournalSound := by
  have keep {u : State} (hj : u.journal = s.journal)
      (hr : u.settle.records.map (·.receiver) = s.settle.records.map (·.receiver)) : u.JournalSound := by
    rw [journalSound_iff, hj, hr, ← journalSound_iff]
    exact h
  cases hm with
  | quiet hq => exact keep hq.journal (pacedList_receiver hq.records)
  | waits r => exact keep rfl rfl
  | voucher serial amount _ _ hspace =>
    rw [acceptVoucher_eq, journalSound_iff]
    exact Journal.SoundWith.entry h hspace
  | reserves items => rw [grantReserved_eq]; exact keep rfl rfl
  | charges items => rw [grantImmediate_eq]; exact keep rfl rfl
  | confirms r index i st hr hi hi' hst =>
    rw [State.confirmItem, notice_eq]
    rcases hst with rfl | rfl
    · exact keep rfl rfl
    · rw [moveItem_failed]; exact keep rfl rfl
  | expires r hr => rw [expire_noticed, closeAsPrinted_eq]; exact keep rfl rfl
  | sells d n => exact keep rfl rfl
  | delivers d n _ _ hspace =>
    rw [deliver_eq, journalSound_iff]
    exact Journal.SoundWith.entry h hspace
  | adjusts d p _ _ hspace =>
    by_cases hp : s.stock[d].onHand < p
    · rw [adjust_over s hp, journalSound_iff]
      exact Journal.SoundWith.entry h hspace
    · rw [adjust_short s hp, journalSound_iff]
      exact Journal.SoundWith.entry h hspace
  | consigns k d n _ htest =>
    rw [journalSound_iff, State.consigned]
    simp only [List.map_append]
    unfold State.consignTest at htest
    split at htest
    · exact nomatch htest
    split at htest
    · exact nomatch htest
    rename_i hroom
    split at htest
    · exact nomatch htest
    split at htest
    · exact nomatch htest
    split at htest
    · exact nomatch htest
    · rename_i hspace
      exact Journal.SoundWith.give h (eq_true_of_ne_false hspace) (eq_true_of_ne_false hroom)
  | gives k g _ hroom hspace =>
    rw [journalSound_iff, State.gave]
    simp only [List.map_append]
    exact Journal.SoundWith.give h hspace hroom
  | receivesCredit g serial a _ _ hspace =>
    rw [receiveCredit_eq, journalSound_iff]
    exact Journal.SoundWith.entry h hspace
  | receivesStock g serial d n _ _ hspace =>
    rw [receiveStock_eq, journalSound_iff]
    exact Journal.SoundWith.entry h hspace
  | settles r _ hr =>
    rw [journalSound_iff]
    cases hb : r.body with
    | credit g => rw [settleRecord_credit s hb]; exact Journal.SoundWith.close h hr
    | stock d c f => rw [settleRecord_stock s hb]; exact Journal.SoundWith.close h hr
  | restores r _ hr =>
    rw [journalSound_iff]
    cases hb : r.body with
    | credit g => rw [restoreRecord_credit s hb]; exact Journal.SoundWith.close h hr
    | stock d c f => rw [restoreRecord_stock s hb]; exact Journal.SoundWith.close h hr
  | strands r hr hstate =>
    obtain ⟨a, b, hab, -, hupdate⟩ := matched_split hr
    rw [strand_noticed]
    refine keep rfl (Eq.trans (congrArg _ hupdate) ?_)
    rw [hab, List.map_append, List.map_append]
    rfl
  | audits q => exact closeAudit_journalSound h q
  | parks =>
    unfold State.park
    split
    · rw [notice_eq]; exact keep rfl rfl
    · exact h
  | resumes =>
    unfold State.resume
    split
    · exact keep rfl rfl
    · exact h
  | configures c => exact keep rfl rfl
  | commits =>
    rw [journalSound_iff]
    show Journal.empty.SoundWith []
    exact ⟨List.Pairwise.nil, fun e he => absurd he List.not_mem_nil, Nat.le_refl _, by decide, by decide, by decide,
      List.nodup_nil⟩
  | resets powerOn =>
    obtain ⟨u, g, hq, hreset⟩ := resetWork_split s powerOn
    rw [hreset, parkAtReset_eq]
    refine keep (u := _) (hq.journal.trans ?_) ((pacedList_receiver hq.records).trans ?_)
    · rw [State.resetClosed, closeReservations_eq, relatch_eq]; rfl
    · rw [State.resetClosed, closeReservations_eq, relatch_eq]
      simp only [State.strandAll, State.onSettle, State.rebuild, List.map_map]
      rfl

/-- Settles O36: every move keeps the journal, and a step is a chain of moves. -/
theorem journalOrderAndSpaceAreKept : Obligations.JournalOrderAndSpaceAreKept :=
  fun _ _ hs h => step_keeps move_journalSound (fun _ _ hk => hk) hs h

/-! ### The line -/

/-- Every move keeps the line sound: where it does not leave the line as it was, it withdraws a GIVE or starts the line
anew. -/
theorem move_lineSound (s t : State) (hm : Move s t) (h : s.LineSound) : t.LineSound := by
  have hwithout (r : OutRecord) : (s.lineWithout r).Sound := withdrawGive_sound s _ _ h
  cases hm with
  | quiet hq => exact hq.line h
  | waits r => exact h
  | voucher serial amount => rw [acceptVoucher_eq]; exact h
  | reserves items => rw [grantReserved_eq]; exact h
  | charges items => rw [grantImmediate_eq]; exact h
  | confirms r index i st hr hi hi' hst =>
    rw [State.confirmItem, notice_eq]
    rcases hst with rfl | rfl
    · exact h
    · rw [moveItem_failed]; exact h
  | expires r hr => rw [expire_noticed, closeAsPrinted_eq]; exact h
  | sells d n => exact h
  | delivers d n => rw [deliver_eq]; exact h
  | adjusts d p =>
    by_cases hp : s.stock[d].onHand < p
    · rw [adjust_over s hp]; exact h
    · rw [adjust_short s hp]; exact h
  | consigns k d n => exact h
  | gives k g => exact h
  | receivesCredit g serial a => rw [receiveCredit_eq]; exact h
  | receivesStock g serial d n => rw [receiveStock_eq]; exact h
  | settles r =>
    cases hb : r.body with
    | credit g => rw [settleRecord_credit s hb]; exact hwithout r
    | stock d c f => rw [settleRecord_stock s hb]; exact hwithout r
  | restores r =>
    cases hb : r.body with
    | credit g => rw [restoreRecord_credit s hb]; exact hwithout r
    | stock d c f => rw [restoreRecord_stock s hb]; exact hwithout r
  | strands r => rw [strand_noticed]; exact hwithout r
  | audits q => exact h
  | parks =>
    unfold State.park
    split
    · rw [notice_eq]; exact h
    · exact h
  | resumes =>
    unfold State.resume
    split
    · exact h
    · exact h
  | configures c => exact h
  | commits => exact started_sound _
  | resets powerOn =>
    obtain ⟨u, g, hq, hreset⟩ := resetWork_split s powerOn
    rw [hreset, parkAtReset_eq]
    refine hq.line ?_
    rw [State.resetClosed, closeReservations_eq, relatch_eq]
    show (if s.committed then LineController.started s.ctl.config.station else LineController.inactive).Sound
    split
    · exact started_sound _
    · exact inactive_sound

/-- Settles O44: every move keeps the line, and a step is a chain of moves. -/
theorem lineRulesAreKept : Obligations.LineRulesAreKept :=
  fun _ _ hs h => step_keeps move_lineSound (fun _ _ hk => hk) hs h

/-! ### The drawer -/

/-- A denomination in balance, with this much open stock: the identity of R69, the two bounds of R70. -/
def Denom.Balanced (x : Denom) (openStock : Nat) : Prop :=
  x.received + x.inward + x.overFound + x.returned = x.onHand + x.sold + x.outward + x.shortFound ∧
  x.onHand + openStock ≤ stockCap ∧ x.received + x.inward + x.overFound + x.returned + openStock ≤ counterCap

theorem stockBalances_iff (s : State) : s.StockBalances ↔ ∀ d : Fin 16, Denom.Balanced s.stock[d] (s.openStock d) := Iff.rfl

/-- A change of one denomination and its open stock: the others stay in balance. -/
theorem stockBalances_set {s t : State} (h : s.StockBalances) {d : Fin 16} {x : Denom}
    (hstock : t.stock = s.stock.set d x) (hopen : ∀ e, e ≠ d → t.openStock e = s.openStock e)
    (hx : x.Balanced (t.openStock d)) : t.StockBalances := by
  rw [stockBalances_iff] at h ⊢
  intro e
  have hget : t.stock[e] = if d = e then x else s.stock[e] := by
    simp only [hstock, Fin.getElem_fin, Vector.getElem_set, Fin.val_inj]
  rw [hget]
  by_cases he : d = e
  · rw [if_pos he, ← he]
    exact hx
  · rw [if_neg he, hopen e (Ne.symm he)]
    exact h e

/-- The open stock of a list of records. -/
theorem openStock_append (a b : List OutRecord) (d : Fin 16) :
    ((a ++ b).map (·.stamps d)).sum = (a.map (·.stamps d)).sum + (b.map (·.stamps d)).sum := by
  rw [List.map_append, List.sum_append]

/-- Taking a record out of the list takes its stamps out of the open stock. -/
theorem openStock_without {s : State} {r : OutRecord} (hr : s.matched r.receiver r.serial = some r) (d : Fin 16) :
    s.openStock d = ((s.settle.without r).records.map (·.stamps d)).sum + r.stamps d := by
  obtain ⟨a, b, hab, hwithout, -⟩ := matched_split hr
  rw [State.openStock, hab, hwithout, openStock_append, openStock_append, List.map_cons, List.sum_cons]
  omega

/-- A record of other stamps has none of these. -/
theorem stamps_of_ne {r : OutRecord} {d e : Fin 16} {c f : Nat} (hb : r.body = .stock d c f) (he : e ≠ d) :
    r.stamps e = 0 := by
  rw [OutRecord.stamps, hb]
  exact if_neg (Ne.symm he)

theorem stamps_self {r : OutRecord} {d : Fin 16} {c f : Nat} (hb : r.body = .stock d c f) : r.stamps d = c := by
  rw [OutRecord.stamps, hb]
  exact if_pos rfl

theorem stamps_credit {r : OutRecord} {g : Nat} (hb : r.body = .credit g) (d : Fin 16) : r.stamps d = 0 := by
  rw [OutRecord.stamps, hb]

/-- The tests of R70 leave room under both bounds. -/
theorem overStock_eq_false {s : State} {d : Fin 16} {n : Nat} (h : s.overStock d n = false) :
    s.stock[d].onHand + s.openStock d + n ≤ stockCap ∧
    s.stock[d].received + s.stock[d].inward + s.stock[d].overFound + s.stock[d].returned + s.openStock d + n ≤ counterCap := by
  simp only [State.overStock, Bool.or_eq_false_iff, decide_eq_false_iff_not, Nat.not_lt] at h
  exact h

/-- Every move keeps the drawer in balance. -/
theorem move_stockBalances (s t : State) (hm : Move s t) (h : s.StockBalances) : t.StockBalances := by
  have keep {u : State} (hstock : u.stock = s.stock) (hopen : ∀ d, u.openStock d = s.openStock d) : u.StockBalances := by
    intro d
    obtain ⟨hid, hcap, htotal⟩ := h d
    simp only [State.committedStock, State.stockTotal, hstock, hopen d] at *
    exact ⟨hid, hcap, htotal⟩
  cases hm with
  | quiet hq =>
    refine keep hq.stock fun d => ?_
    rw [State.openStock, pacedList_stamps hq.records]
    rfl
  | waits r => exact keep rfl fun _ => rfl
  | voucher serial amount => rw [acceptVoucher_eq]; exact keep rfl fun _ => rfl
  | reserves items => rw [grantReserved_eq]; exact keep rfl fun _ => rfl
  | charges items => rw [grantImmediate_eq]; exact keep rfl fun _ => rfl
  | confirms r index i st hr hi hi' hst =>
    rw [State.confirmItem, notice_eq]
    rcases hst with rfl | rfl
    · exact keep rfl fun _ => rfl
    · rw [moveItem_failed]; exact keep rfl fun _ => rfl
  | expires r hr => rw [expire_noticed, closeAsPrinted_eq]; exact keep rfl fun _ => rfl
  | sells d n _ hn =>
    refine stockBalances_set h (State.onDenom_stock s d _) (fun _ _ => rfl) ?_
    obtain ⟨hid, hcap, htotal⟩ := h d
    simp only [State.committedStock, State.stockTotal] at hcap htotal
    show Denom.Balanced _ (s.openStock d)
    refine ⟨?_, ?_, htotal⟩ <;> simp only <;> omega
  | delivers d n _ hcap =>
    rw [deliver_eq]
    refine stockBalances_set h rfl (fun _ _ => rfl) ?_
    obtain ⟨hid, -, -⟩ := h d
    obtain ⟨h1, h2⟩ := overStock_eq_false hcap
    show Denom.Balanced _ (s.openStock d)
    refine ⟨?_, ?_, ?_⟩ <;> simp only <;> omega
  | adjusts d p _ hcap =>
    obtain ⟨hid, hcap', htotal⟩ := h d
    simp only [State.committedStock, State.stockTotal] at hcap' htotal
    by_cases hp : s.stock[d].onHand < p
    · rw [adjust_over s hp]
      refine stockBalances_set h rfl (fun _ _ => rfl) ?_
      rw [State.overCount, decide_eq_true hp, Bool.true_and, Bool.or_eq_false_iff, decide_eq_false_iff_not,
        decide_eq_false_iff_not, State.stockTotal] at hcap
      show Denom.Balanced _ (s.openStock d)
      refine ⟨?_, ?_, ?_⟩ <;> simp only <;> omega
    · rw [adjust_short s hp]
      refine stockBalances_set h rfl (fun _ _ => rfl) ?_
      show Denom.Balanced _ (s.openStock d)
      refine ⟨?_, ?_, ?_⟩ <;> simp only <;> omega
  | consigns k d n _ htest =>
    have hopen (e : Fin 16) : (s.consigned k d n).openStock e = s.openStock e + if d = e then n else 0 := by
      simp only [State.openStock, State.consigned, openStock_append]
      rfl
    unfold State.consignTest at htest
    split at htest
    · exact nomatch htest
    split at htest
    · exact nomatch htest
    split at htest
    · exact nomatch htest
    rename_i hshort
    split at htest
    · exact nomatch htest
    rename_i hcap
    obtain ⟨hid, hcap', htotal⟩ := h d
    simp only [State.committedStock, State.stockTotal] at hcap' htotal hcap
    refine stockBalances_set h (d := d) rfl (fun e he => ?_) ?_
    · rw [hopen, if_neg (Ne.symm he)]; rfl
    · rw [hopen, if_pos rfl]
      refine ⟨?_, ?_, ?_⟩ <;> simp only <;> omega
  | gives k g =>
    refine keep rfl fun d => ?_
    simp only [State.openStock, State.gave, openStock_append]
    rfl
  | receivesCredit g serial a => rw [receiveCredit_eq]; exact keep rfl fun _ => rfl
  | receivesStock g serial d n _ hcap =>
    rw [receiveStock_eq]
    refine stockBalances_set h rfl (fun _ _ => rfl) ?_
    obtain ⟨hid, -, -⟩ := h d
    obtain ⟨h1, h2⟩ := overStock_eq_false hcap
    show Denom.Balanced _ (s.openStock d)
    refine ⟨?_, ?_, ?_⟩ <;> simp only <;> omega
  | settles r _ hr =>
    cases hb : r.body with
    | credit g =>
      rw [settleRecord_credit s hb]
      refine keep rfl fun d => ?_
      rw [openStock_without hr, stamps_credit hb]
      rfl
    | stock d c f =>
      rw [settleRecord_stock s hb]
      rw [stockBalances_iff] at h ⊢
      intro e
      obtain ⟨hid, hcap, htotal⟩ := h e
      have hopen := openStock_without hr e
      show Denom.Balanced s.stock[e] ((s.settle.without r).records.map (·.stamps e)).sum
      exact ⟨hid, by omega, by omega⟩
  | restores r _ hr =>
    cases hb : r.body with
    | credit g =>
      rw [restoreRecord_credit s hb]
      refine keep rfl fun d => ?_
      rw [openStock_without hr, stamps_credit hb]
      rfl
    | stock d c f =>
      rw [restoreRecord_stock s hb]
      refine stockBalances_set h (d := d) rfl (fun e he => ?_) ?_
      · rw [openStock_without hr, stamps_of_ne hb he]
        rfl
      · obtain ⟨hid, hcap, htotal⟩ := h d
        simp only [State.committedStock, State.stockTotal] at hcap htotal
        have hopen := openStock_without hr d
        rw [stamps_self hb] at hopen
        show Denom.Balanced _ ((s.settle.without r).records.map (·.stamps d)).sum
        refine ⟨?_, ?_, ?_⟩ <;> simp only <;> omega
  | strands r hr hstate =>
    obtain ⟨a, b, hab, -, hupdate⟩ := matched_split hr
    rw [strand_noticed]
    refine keep rfl fun d => Eq.trans (congrArg (fun l => (l.map (·.stamps d)).sum) hupdate) ?_
    rw [State.openStock, hab, openStock_append, openStock_append]
    rfl
  | audits q => exact keep rfl fun _ => rfl
  | parks =>
    unfold State.park
    split
    · rw [notice_eq]; exact keep rfl fun _ => rfl
    · exact h
  | resumes =>
    unfold State.resume
    split
    · exact keep rfl fun _ => rfl
    · exact h
  | configures c => exact keep rfl fun _ => rfl
  | commits =>
    intro d
    have hzero : s.commit.stock[d] = Denom.zero := Vector.getElem_replicate d.isLt
    have hopen : s.commit.openStock d = 0 := rfl
    simp only [State.committedStock, State.stockTotal, hzero, hopen]
    decide
  | resets powerOn =>
    obtain ⟨u, g, hq, hreset⟩ := resetWork_split s powerOn
    rw [hreset, parkAtReset_eq]
    refine keep (hq.stock.trans ?_) fun d => ?_
    · rw [State.resetClosed, closeReservations_eq, relatch_eq]; rfl
    · show (u.settle.records.map (·.stamps d)).sum = s.openStock d
      rw [pacedList_stamps hq.records, State.resetClosed, closeReservations_eq, relatch_eq]
      simp only [State.strandAll, State.onSettle, State.rebuild, List.map_map]
      rfl

/-- Settles O34: every move keeps the drawer, and a step is a chain of moves. -/
theorem stockBalanceIsKept : Obligations.StockBalanceIsKept :=
  fun _ _ hs h => step_keeps move_stockBalances (fun _ _ hk => hk) hs h

end Sys2Proof.Machine
end

section
/-! PROOFS. The account keeps its balance: how each move changes the registers, the reservation table, the class totals and
the open credit together (R2 to R5, R49, R55, R66). -/

namespace Sys2Proof.Machine

/-! ### Class totals -/

/-- The values of the class totals, summed (R66). -/
def totalsValue (totals : Vector ClassTotal 8) : Nat := (totals.toList.map (·.value)).sum

theorem sum_map_set {l : List ClassTotal} {i : Nat} (h : i < l.length) (x : ClassTotal) :
    ((l.set i x).map (·.value)).sum + l[i].value = (l.map (·.value)).sum + x.value := by
  induction l generalizing i with
  | nil => exact absurd h (Nat.not_lt_zero i)
  | cons y ys ih =>
    cases i with
    | zero => simp only [List.set_cons_zero, List.map_cons, List.sum_cons, List.getElem_cons_zero]; omega
    | succ i =>
      have := ih (Nat.lt_of_succ_lt_succ h)
      simp only [List.set_cons_succ, List.map_cons, List.sum_cons, List.getElem_cons_succ]
      omega

/-- A printed item adds its value to the class totals (R66). -/
theorem totalsValue_printedIn (totals : Vector ClassTotal 8) (c : Fin 8) (v : Nat) :
    totalsValue (printedIn totals c v) = totalsValue totals + v := by
  have hc : c.val < totals.toList.length := by rw [Vector.length_toList]; exact c.isLt
  have h := sum_map_set hc { count := min (totals[c].count + 1) 4294967295, value := totals[c].value + v }
  rw [Vector.getElem_toList] at h
  rw [totalsValue, printedIn, Vector.toList_set, totalsValue]
  have hv : totals[c].value = totals[c.val].value := rfl
  simp only [hv] at h ⊢
  omega

/-- Printed items add their values to the class totals. -/
theorem totalsValue_foldl {α : Type} (c : α → Fin 8) (v : α → Nat) (items : List α) (totals : Vector ClassTotal 8) :
    totalsValue (items.foldl (fun t i => printedIn t (c i) (v i)) totals) = totalsValue totals + (items.map v).sum := by
  induction items generalizing totals with
  | nil => rfl
  | cons i is ih => rw [List.foldl_cons, ih, totalsValue_printedIn, List.map_cons, List.sum_cons, Nat.add_assoc]

/-! ### Reservations -/

/-- The values held by a table of reservations (R49). -/
def heldBy (table : List Reservation) : Nat := (table.map Reservation.grantedValue).sum

theorem heldBy_append (a b : List Reservation) : heldBy (a ++ b) = heldBy a + heldBy b := by
  rw [heldBy, List.map_append, List.sum_append, heldBy, heldBy]

theorem heldBy_cons (r : Reservation) (b : List Reservation) : heldBy (r :: b) = r.grantedValue + heldBy b := by
  rw [heldBy, List.map_cons, List.sum_cons, heldBy]

theorem grantedItems_sum (rs : List Reservation) :
    ((rs.flatMap Reservation.grantedItems).map (·.value)).sum = heldBy rs := by
  induction rs with
  | nil => rfl
  | cons r rs ih =>
    rw [List.flatMap_cons, List.map_append, List.sum_append, ih, heldBy_cons]
    rfl

/-- A reservation of a table of different ids splits it, and no other has its id. -/
theorem table_split {table : List Reservation} {r : Reservation} (hr : r ∈ table) (hn : (table.map (·.id)).Nodup) :
    ∃ a b, table = a ++ r :: b ∧ (∀ x ∈ a, x.id ≠ r.id) ∧ ∀ x ∈ b, x.id ≠ r.id := by
  obtain ⟨a, b, rfl⟩ := List.append_of_mem hr
  rw [List.map_append, List.map_cons, List.nodup_append] at hn
  obtain ⟨-, hb, hab⟩ := hn
  refine ⟨a, b, rfl, fun x hx => ?_, fun x hx he => ?_⟩
  · exact hab _ (List.mem_map.2 ⟨x, hx, rfl⟩) _ List.mem_cons_self
  · exact (List.nodup_cons.1 hb).1 (List.mem_map.2 ⟨x, hx, he⟩)

/-- The reservation leaves a split table by its id. -/
theorem erase_split {a b : List Reservation} {r : Reservation} (ha : ∀ x ∈ a, x.id ≠ r.id) :
    (a ++ r :: b).eraseP (·.id == r.id) = a ++ b :=
  eraseP_append_cons (fun x hx => by simpa using ha x hx) (by simp)

/-- A reservation takes its new form in a split table by its id. -/
theorem replace_split {a b : List Reservation} {r q : Reservation} (ha : ∀ x ∈ a, x.id ≠ r.id)
    (hb : ∀ x ∈ b, x.id ≠ r.id) :
    ((a ++ r :: b).map fun x => if x.id = r.id then q else x) = a ++ q :: b := by
  have hid : ∀ l : List Reservation, (∀ x ∈ l, x.id ≠ r.id) → (l.map fun x => if x.id = r.id then q else x) = l := by
    intro l hl
    exact (List.map_congr_left (g := id) fun x hx => if_neg (hl x hx)).trans (List.map_id l)
  rw [List.map_append, List.map_cons, hid a ha, hid b hb, if_pos rfl]

/-- The value of a list of items that are GRANTED. -/
def grantedSum (items : List ResItem) : Nat := ((items.filter (·.state == .granted)).map (·.value)).sum

/-- Closing one GRANTED item takes its value out of the sum (R58). -/
theorem grantedSum_modify {items : List ResItem} {index : Nat} {i : ResItem} {st : ItemState}
    (hi : items[index]? = some i) (hg : i.state = .granted) (hst : st ≠ .granted) :
    grantedSum items = i.value + grantedSum (items.modify index fun x => { x with state := st }) := by
  have hst' : (st == .granted) = false := by simpa using hst
  induction items generalizing index with
  | nil => exact nomatch hi
  | cons x xs ih =>
    cases index with
    | zero =>
      obtain rfl : x = i := Option.some.inj hi
      simp [grantedSum, hg, hst']
    | succ n =>
      have := ih (index := n) (by simpa using hi)
      simp only [List.modify_succ_cons, grantedSum, List.filter_cons] at this ⊢
      split
      · simp only [List.map_cons, List.sum_cons]; omega
      · exact this

theorem grantedValue_withItem {r : Reservation} {index : Nat} {i : ResItem} {st : ItemState}
    (hi : r.items[index]? = some i) (hg : i.state = .granted) (hst : st ≠ .granted) :
    r.grantedValue = i.value + (r.withItem index st).grantedValue := grantedSum_modify hi hg hst

theorem grantedValue_of_isEmpty {r : Reservation} (h : r.grantedItems.isEmpty = true) : r.grantedValue = 0 := by
  rw [Reservation.grantedValue, List.isEmpty_iff.1 h]
  rfl

/-- The reservation of a grant holds the batch total. -/
theorem newReservation_grantedValue (s : State) (items : List (Fin 8 × Nat)) :
    (s.newReservation items).grantedValue = batchTotal items := by
  have h : (s.newReservation items).grantedItems = (s.newReservation items).items := by
    rw [Reservation.grantedItems, List.filter_eq_self]
    intro i hi
    obtain ⟨v, -, rfl⟩ := List.mem_map.1 hi
    rfl
  rw [Reservation.grantedValue, h, State.newReservation, List.map_map]
  rfl

/-! ### The id of a grant -/

theorem repeat_succ_comm (f : Nat → Nat) (m n : Nat) : Nat.repeat f (m + 1) n = Nat.repeat f m (f n) := by
  induction m with
  | zero => rfl
  | succ m ih => exact congrArg f ih

/-- The first free id, where there is one within the tries (R55). -/
theorem freeId_eq_first {used : List Nat} {k tries n : Nat} (hk : k ≤ tries)
    (hused : ∀ m < k, Nat.repeat idAfter m n ∈ used) (hfree : Nat.repeat idAfter k n ∉ used) :
    freeId used tries n = Nat.repeat idAfter k n := by
  induction k generalizing tries n with
  | zero =>
    cases tries with
    | zero => rfl
    | succ t => exact if_neg (by simpa [Nat.repeat] using hfree)
  | succ k ih =>
    obtain ⟨t, rfl⟩ := Nat.exists_eq_succ_of_ne_zero (Nat.ne_of_gt (Nat.lt_of_lt_of_le k.succ_pos hk))
    have hn : used.contains n = true := by simpa [Nat.repeat] using hused 0 k.succ_pos
    rw [freeId, if_pos hn, repeat_succ_comm]
    refine ih (Nat.le_of_succ_le_succ hk) (fun m hm => ?_) (by rwa [← repeat_succ_comm])
    rw [← repeat_succ_comm]
    exact hused (m + 1) (Nat.succ_lt_succ hm)

/-- Four ids in a row are different (R55). -/
theorem ids_nodup (n : Nat) : ((List.range 4).map fun m => Nat.repeat idAfter m n).Nodup := by
  have hrange : List.range 4 = [0, 1, 2, 3] := rfl
  simp only [hrange, List.map_cons, List.map_nil, Nat.repeat, List.nodup_cons, List.mem_cons, List.not_mem_nil, or_false,
    not_or, List.nodup_nil, not_false_iff, and_true]
  unfold idAfter
  refine ⟨⟨?_, ?_, ?_⟩, ⟨?_, ?_⟩, ?_⟩ <;> (repeat' split) <;> omega

/-- Of the numbers up to n with a property, n among them, one is the first. -/
theorem exists_first {p : Nat → Prop} (n : Nat) (h : p n) : ∃ m ≤ n, p m ∧ ∀ k < m, ¬ p k := by
  induction n using Nat.strongRecOn with
  | ind n ih =>
    by_cases hbefore : ∃ k, k < n ∧ p k
    · obtain ⟨k, hk, hp⟩ := hbefore
      obtain ⟨m, hm, hfirst⟩ := ih k hk hp
      exact ⟨m, Nat.le_trans hm (Nat.le_of_lt hk), hfirst⟩
    · exact ⟨n, Nat.le_refl n, h, fun k hk hp => hbefore ⟨k, hk, hp⟩⟩

/-- With at most three ids in use one of four in a row is free: the first of them is the one chosen (R55). -/
theorem chosenId_spec {s : State} (hroom : s.resv.table.length < 4) :
    ∃ n ≤ 3, (∀ m < n, Nat.repeat idAfter m s.resv.nextId ∈ s.resv.table.map (·.id)) ∧
      Nat.repeat idAfter n s.resv.nextId ∉ s.resv.table.map (·.id) ∧
      s.chosenId = Nat.repeat idAfter n s.resv.nextId := by
  have hex : ∃ n, n ≤ 3 ∧ Nat.repeat idAfter n s.resv.nextId ∉ s.resv.table.map (·.id) := by
    refine Classical.byContradiction fun hall => ?_
    have hsub : ((List.range 4).map fun m => Nat.repeat idAfter m s.resv.nextId) ⊆ s.resv.table.map (·.id) := by
      intro x hx
      obtain ⟨m, hm, rfl⟩ := List.mem_map.1 hx
      exact Decidable.not_not.1 fun hn => hall ⟨m, Nat.le_of_lt_succ (List.mem_range.1 hm), hn⟩
    have := (ids_nodup s.resv.nextId).length_le_of_subset hsub
    simp only [List.length_map, List.length_range] at this
    omega
  obtain ⟨n, hn, hused⟩ := hex
  obtain ⟨m, hm, hfree, hfirst⟩ :=
    exists_first (p := fun n => Nat.repeat idAfter n s.resv.nextId ∉ s.resv.table.map (·.id)) n hused
  have hbefore : ∀ k < m, Nat.repeat idAfter k s.resv.nextId ∈ s.resv.table.map (·.id) := fun k hk =>
    Decidable.not_not.1 (hfirst k hk)
  have hle : m ≤ 3 := Nat.le_trans hm hn
  exact ⟨m, hle, hbefore, hfree, freeId_eq_first (Nat.le_trans hle (by decide)) hbefore hfree⟩

/-! ### The balance -/

/-- The account in balance with a reservation table, class totals and open credit (R2 to R5, R48, R49, R66). -/
def Account.BalancedWith (a : Account) (table : List Reservation) (totals : Vector ClassTotal 8) (openOut : Nat) : Prop :=
  a.loaded + a.taken + a.reclaimed = a.credit + a.held + a.used + a.given ∧
  a.given = a.settledOut + a.reclaimed + openOut ∧
  a.held = heldBy table ∧ a.used = totalsValue totals ∧
  a.credit + a.held + openOut ≤ creditCap ∧ a.loaded + a.taken + a.reclaimed + openOut ≤ ascendingCap ∧
  table.length ≤ 4 ∧ (table.map (·.id)).Nodup

theorem creditBalances_iff (s : State) :
    s.CreditBalances ↔ s.acct.BalancedWith s.resv.table s.resv.totals s.openOut := Iff.rfl

theorem openOut_append (a b : List OutRecord) :
    ((a ++ b).map OutRecord.credit).sum = (a.map OutRecord.credit).sum + (b.map OutRecord.credit).sum := by
  rw [List.map_append, List.sum_append]

/-- Taking a record out of the list takes its credit out of OPEN_OUT. -/
theorem openOut_without {s : State} {r : OutRecord} (hr : s.matched r.receiver r.serial = some r) :
    s.openOut = ((s.settle.without r).records.map OutRecord.credit).sum + r.credit := by
  obtain ⟨a, b, hab, hwithout, -⟩ := matched_split hr
  rw [State.openOut, hab, hwithout, openOut_append, openOut_append, List.map_cons, List.sum_cons]
  omega

theorem credit_of_credit {r : OutRecord} {g : Nat} (hb : r.body = .credit g) : r.credit = g := by
  rw [OutRecord.credit, hb]

theorem credit_of_stock {r : OutRecord} {d : Fin 16} {c f : Nat} (hb : r.body = .stock d c f) : r.credit = 0 := by
  rw [OutRecord.credit, hb]

/-- A confirmed item leaves the account in balance (R8, R58). -/
theorem confirmItem_creditBalances {s : State} (h : s.CreditBalances) {r : Reservation} {index : Nat} {i : ResItem}
    {st : ItemState} (hr : s.reservation r.id = some r) (hi : r.items[index]? = some i) (hi' : i.state = .granted)
    (hst : st = .printed ∨ st = .failed) : (s.confirmItem r index i st).CreditBalances := by
  obtain ⟨hid, hgiven, hheld, hused, hcap, hasc, hlen, hnodup⟩ := (creditBalances_iff s).1 h
  obtain ⟨a, b, hab, ha, hb⟩ := table_split (reservation_spec hr).1 hnodup
  have hne : st ≠ .granted := by rcases hst with rfl | rfl <;> decide
  have hvalue := grantedValue_withItem hi hi' hne
  rw [hab, heldBy_append, heldBy_cons] at hheld
  rw [hab] at hnodup hlen
  -- the table keeps its ids, and the sum of its values falls by the item's
  have htable : ∃ table : List Reservation,
      (if (r.withItem index st).grantedItems.isEmpty then s.resv.table.eraseP (·.id == (r.withItem index st).id)
        else s.resv.table.map fun q => if q.id = (r.withItem index st).id then r.withItem index st else q) = table ∧
      heldBy table + i.value = s.acct.held ∧ table.length ≤ 4 ∧ (table.map (·.id)).Nodup := by
    refine ⟨_, rfl, ?_⟩
    have hid' : (r.withItem index st).id = r.id := rfl
    rw [hid', hab]
    split
    · rename_i hempty
      rw [erase_split ha]
      have hzero := grantedValue_of_isEmpty hempty
      refine ⟨by rw [heldBy_append]; omega, ?_, hnodup.sublist ((List.sublist_cons_self r b).append_left a |>.map _)⟩
      simp only [List.length_append, List.length_cons] at hlen ⊢
      omega
    · rw [replace_split ha hb]
      refine ⟨by rw [heldBy_append, heldBy_cons]; omega, ?_, ?_⟩
      · simpa only [List.length_append, List.length_cons] using hlen
      · simpa only [List.map_append, List.map_cons, hid'] using hnodup
  obtain ⟨table, htable, hsum, hlen', hnodup'⟩ := htable
  rw [State.confirmItem, notice_eq, creditBalances_iff]
  rcases hst with rfl | rfl
  · rw [moveItem_printed]
    show Account.BalancedWith { s.acct with held := s.acct.held - i.value, used := s.acct.used + i.value }
      (if _ then _ else _) (printedIn s.resv.totals i.cls i.value) s.openOut
    rw [htable]
    refine ⟨?_, hgiven, ?_, ?_, ?_, hasc, hlen', hnodup'⟩ <;> simp only [totalsValue_printedIn] <;> omega
  · rw [moveItem_failed]
    show Account.BalancedWith { s.acct with held := s.acct.held - i.value, credit := s.acct.credit + i.value }
      (if _ then _ else _) s.resv.totals s.openOut
    rw [htable]
    refine ⟨?_, hgiven, ?_, hused, ?_, hasc, hlen', hnodup'⟩ <;> simp only <;> omega

/-- An expired reservation leaves the account in balance (R60). -/
theorem expire_creditBalances {s : State} (h : s.CreditBalances) {r : Reservation} (hr : r ∈ s.resv.table) :
    (s.expire r).CreditBalances := by
  obtain ⟨hid, hgiven, hheld, hused, hcap, hasc, hlen, hnodup⟩ := (creditBalances_iff s).1 h
  obtain ⟨a, b, hab, ha, hb⟩ := table_split hr hnodup
  rw [expire_noticed, creditBalances_iff, closeAsPrinted_eq, chargeItems_totals]
  show Account.BalancedWith { s.acct with held := s.acct.held - r.grantedValue, used := s.acct.used + r.grantedValue }
      (s.resv.table.eraseP (·.id == r.id)) (List.foldl _ s.resv.totals _) s.openOut
  rw [hab] at hheld hnodup hlen ⊢
  rw [erase_split ha]
  rw [heldBy_append, heldBy_cons] at hheld
  have hvalue : (r.grantedItems.map (·.value)).sum = r.grantedValue := rfl
  refine ⟨?_, hgiven, ?_, ?_, ?_, hasc, ?_, hnodup.sublist ((List.sublist_cons_self r b).append_left a |>.map _)⟩
  · simp only; omega
  · simp only [heldBy_append]; omega
  · simp only [totalsValue_foldl ResItem.cls ResItem.value, hvalue]; omega
  · simp only; omega
  · simp only [List.length_append, List.length_cons] at hlen ⊢
    omega

/-- A grant in WINDOW or EXTENDED mode leaves the account in balance, under a new id (R7, R55). -/
theorem grantReserved_creditBalances {s : State} (h : s.CreditBalances) {items : List (Fin 8 × Nat)}
    (hcredit : batchTotal items ≤ s.acct.credit) (hroom : s.resv.table.length < 4) :
    (s.grantReserved items).CreditBalances := by
  obtain ⟨hid, hgiven, hheld, hused, hcap, hasc, hlen, hnodup⟩ := (creditBalances_iff s).1 h
  obtain ⟨n, -, -, hfree, hchosen⟩ := chosenId_spec hroom
  rw [grantReserved_eq, creditBalances_iff]
  show Account.BalancedWith { s.acct with
      credit := s.acct.credit - batchTotal items, held := s.acct.held + batchTotal items }
      (s.resv.table ++ [s.newReservation items]) s.resv.totals s.openOut
  refine ⟨?_, hgiven, ?_, hused, ?_, hasc, ?_, ?_⟩
  · simp only; omega
  · have hnew : heldBy [s.newReservation items] = batchTotal items := by
      rw [heldBy_cons, newReservation_grantedValue]; rfl
    simp only [heldBy_append, hnew]; omega
  · simp only; omega
  · simp only [List.length_append, List.length_singleton]; omega
  · rw [List.map_append, List.map_singleton]
    refine List.nodup_append.2 ⟨hnodup, List.nodup_cons.2 ⟨List.not_mem_nil, List.nodup_nil⟩, fun x hx y hy => ?_⟩
    rw [List.mem_singleton.1 hy]
    rintro rfl
    have hid' : (s.newReservation items).id = s.chosenId := rfl
    rw [hid', hchosen] at hx
    exact hfree hx

/-- An amount within the caps of R2 and R3. -/
theorem overCap_eq_false {s : State} {amount : Nat} (h : s.overCap amount = false) :
    s.committedCredit + amount ≤ creditCap ∧ s.ascendingTotal + amount ≤ ascendingCap := by
  obtain ⟨hcommitted, htotal⟩ := Bool.or_eq_false_iff.1 h
  exact ⟨Nat.le_of_not_lt (of_decide_eq_false hcommitted), Nat.le_of_not_lt (of_decide_eq_false htotal)⟩

/-- Every move keeps the account in balance. -/
theorem move_creditBalances (s t : State) (hm : Move s t) (h : s.CreditBalances) : t.CreditBalances := by
  have hbal := (creditBalances_iff s).1 h
  obtain ⟨hid, hgiven, hheld, hused, hcap, hasc, hlen, hnodup⟩ := id hbal
  have keep {u : State} (ha : u.acct = { s.acct with limit := u.acct.limit }) (ht : u.resv.table = s.resv.table)
      (hv : u.resv.totals = s.resv.totals) (ho : u.openOut = s.openOut) : u.CreditBalances := by
    rw [creditBalances_iff, ha, ht, hv, ho]
    exact hbal
  cases hm with
  | quiet hq =>
    refine keep hq.acct hq.table hq.totals ?_
    rw [State.openOut, pacedList_credit hq.records]
    rfl
  | waits r =>
    have hmap {α : Type} (f : Reservation → α) (hf : ∀ q : Reservation, f { q with phase := .waiting } = f q) :
        ((s.startWaiting r).resv.table.map f) = s.resv.table.map f := by
      simp only [State.startWaiting, State.onResv_resv, List.map_map]
      refine List.map_congr_left fun q _ => ?_
      simp only [Function.comp_apply]
      split
      · exact hf q
      · rfl
    rw [creditBalances_iff, Account.BalancedWith, heldBy, hmap _ fun _ => rfl, hmap _ fun _ => rfl]
    refine ⟨hid, hgiven, hheld, hused, hcap, hasc, ?_, hnodup⟩
    have := congrArg List.length (hmap (·.id) fun _ => rfl)
    rw [List.length_map, List.length_map] at this
    rw [this]
    exact hlen
  | voucher serial amount _ hover =>
    rw [acceptVoucher_eq, creditBalances_iff]
    obtain ⟨hcommitted, htotal⟩ := overCap_eq_false hover
    simp only [State.committedCredit, State.ascendingTotal] at hcommitted htotal
    show Account.BalancedWith { s.acct with
        credit := s.acct.credit + amount, loaded := s.acct.loaded + amount, lastSerial := serial }
      s.resv.table s.resv.totals s.openOut
    refine ⟨?_, hgiven, hheld, hused, ?_, ?_, hlen, hnodup⟩ <;> simp only <;> omega
  | reserves items _ hcredit hroom => exact grantReserved_creditBalances h hcredit hroom
  | charges items _ hcredit =>
    rw [grantImmediate_eq, creditBalances_iff]
    show Account.BalancedWith { s.acct with
        credit := s.acct.credit - batchTotal items, used := s.acct.used + batchTotal items }
      s.resv.table (List.foldl _ s.resv.totals items) s.openOut
    have hsum : (items.map (·.2)).sum = batchTotal items := rfl
    refine ⟨?_, hgiven, hheld, ?_, ?_, hasc, hlen, hnodup⟩ <;>
      simp only [totalsValue_foldl (α := Fin 8 × Nat) (·.1) (·.2), hsum] <;> omega
  | confirms r index i st hr hi hi' hst => exact confirmItem_creditBalances h hr hi hi' hst
  | expires r hr => exact expire_creditBalances h hr
  | sells d n => exact keep rfl rfl rfl rfl
  | delivers d n => rw [deliver_eq]; exact keep rfl rfl rfl rfl
  | adjusts d p =>
    by_cases hp : s.stock[d].onHand < p
    · rw [adjust_over s hp]; exact keep rfl rfl rfl rfl
    · rw [adjust_short s hp]; exact keep rfl rfl rfl rfl
  | consigns k d n =>
    refine keep rfl rfl rfl ?_
    simp only [State.openOut, State.consigned, openOut_append]
    rfl
  | gives k g _ _ _ htotal hg =>
    have hopen : (s.gave k g).openOut = s.openOut + g := by
      simp only [State.openOut, State.gave, openOut_append]
      rfl
    simp only [State.ascendingTotal] at htotal
    rw [creditBalances_iff, hopen]
    show Account.BalancedWith { s.acct with
        credit := s.acct.credit - g, given := s.acct.given + g }
      s.resv.table s.resv.totals _
    refine ⟨?_, ?_, hheld, hused, ?_, ?_, hlen, hnodup⟩ <;> simp only <;> omega
  | receivesCredit g serial a _ hover =>
    rw [receiveCredit_eq, creditBalances_iff]
    obtain ⟨hcommitted, htotal⟩ := overCap_eq_false (s := s) hover
    simp only [State.committedCredit, State.ascendingTotal] at hcommitted htotal
    show Account.BalancedWith { s.acct with
        credit := s.acct.credit + a, taken := s.acct.taken + a }
      s.resv.table s.resv.totals s.openOut
    refine ⟨?_, hgiven, hheld, hused, ?_, ?_, hlen, hnodup⟩ <;> simp only <;> omega
  | receivesStock g serial d n => rw [receiveStock_eq]; exact keep rfl rfl rfl rfl
  | settles r _ hr =>
    have hopen := openOut_without hr
    cases hb : r.body with
    | credit g =>
      rw [credit_of_credit hb] at hopen
      rw [settleRecord_credit s hb, creditBalances_iff]
      show Account.BalancedWith { s.acct with settledOut := s.acct.settledOut + g }
        s.resv.table s.resv.totals ((s.settle.without r).records.map OutRecord.credit).sum
      refine ⟨hid, ?_, hheld, hused, ?_, ?_, hlen, hnodup⟩ <;> simp only <;> omega
    | stock d c f =>
      rw [credit_of_stock hb] at hopen
      rw [settleRecord_stock s hb]
      exact keep rfl rfl rfl hopen.symm
  | restores r _ hr =>
    have hopen := openOut_without hr
    cases hb : r.body with
    | credit g =>
      rw [credit_of_credit hb] at hopen
      rw [restoreRecord_credit s hb, creditBalances_iff]
      show Account.BalancedWith { s.acct with
        reclaimed := s.acct.reclaimed + g, credit := s.acct.credit + g }
        s.resv.table s.resv.totals ((s.settle.without r).records.map OutRecord.credit).sum
      refine ⟨?_, ?_, hheld, hused, ?_, ?_, hlen, hnodup⟩ <;> simp only <;> omega
    | stock d c f =>
      rw [credit_of_stock hb] at hopen
      rw [restoreRecord_stock s hb]
      exact keep rfl rfl rfl hopen.symm
  | strands r hr hstate =>
    obtain ⟨a, b, hab, -, hupdate⟩ := matched_split hr
    rw [strand_noticed]
    refine keep rfl rfl rfl (Eq.trans (congrArg (fun l => (l.map OutRecord.credit).sum) hupdate) ?_)
    rw [State.openOut, hab, openOut_append, openOut_append]
    rfl
  | audits q => exact keep rfl rfl rfl rfl
  | parks =>
    unfold State.park
    split
    · rw [notice_eq]; exact keep rfl rfl rfl rfl
    · exact h
  | resumes =>
    unfold State.resume
    split
    · exact keep rfl rfl rfl rfl
    · exact h
  | configures c => exact keep rfl rfl rfl rfl
  | commits =>
    rw [creditBalances_iff]
    show Account.BalancedWith Account.zero [] (Vector.replicate 8 ClassTotal.zero) 0
    exact ⟨by decide, by decide, by decide, by decide, by decide, by decide, by decide, by decide⟩
  | resets powerOn =>
    obtain ⟨u, g, hq, hreset⟩ := resetWork_split s powerOn
    rw [hreset, parkAtReset_eq, creditBalances_iff]
    show u.acct.BalancedWith u.resv.table u.resv.totals (u.settle.records.map OutRecord.credit).sum
    rw [hq.acct, hq.table, hq.totals, pacedList_credit hq.records, State.resetClosed, closeReservations_eq, relatch_eq]
    have hstranded : (s.settle.records.map OutRecord.stranded).map OutRecord.credit =
        s.settle.records.map OutRecord.credit := by rw [List.map_map]; rfl
    have hvalue : ((s.resv.table.flatMap Reservation.grantedItems).map (·.value)).sum = heldBy s.resv.table :=
      grantedItems_sum s.resv.table
    show Account.BalancedWith { s.acct with
        held := s.acct.held - heldBy s.resv.table, used := s.acct.used + heldBy s.resv.table, limit := _ } []
      ((s.resv.table.flatMap Reservation.grantedItems).foldl _ s.resv.totals)
      ((s.settle.records.map OutRecord.stranded).map OutRecord.credit).sum
    rw [hstranded]
    have hopen : (s.settle.records.map OutRecord.credit).sum = s.openOut := rfl
    rw [hopen]
    refine ⟨?_, hgiven, ?_, ?_, ?_, hasc, by decide, List.nodup_nil⟩
    · simp only; omega
    · simp only [hheld, Nat.sub_self]; rfl
    · simp only [totalsValue_foldl ResItem.cls ResItem.value, hvalue]; omega
    · simp only; omega

/-- Settles O17: every move keeps the account, and a step is a chain of moves. -/
theorem creditBalanceIsKept : Obligations.CreditBalanceIsKept :=
  fun _ _ hs h => step_keeps move_creditBalances (fun _ _ hk => hk) hs h

end Sys2Proof.Machine
end

section
/-! PROOFS. The park image stays true: a PARKED station's account, drawer and outbound list do not move, and every entry to
PARKED forms the image of its moment (R143, R164 to R170). -/

namespace Sys2Proof.Machine

/-! ### The image and what it froze -/

/-- The image agrees with whatever leaves the registers, the drawer, the outbound list and station control as they were. -/
theorem imageAgrees_congr {s t : State} (hacct : t.acct = { s.acct with limit := t.acct.limit }) (hstock : t.stock = s.stock)
    (hctl : t.ctl = s.ctl) (hrecords : t.settle.records = s.settle.records) (h : s.imageAgrees) : t.imageAgrees := by
  obtain ⟨day, generation, himage⟩ := h
  have hfrozen : State.frozenRecords { t with time := { t.time with day := day } } =
      State.frozenRecords { s with time := { s.time with day := day } } := by
    simp only [State.frozenRecords, State.face, State.openStock, hstock, hctl, hrecords]
    rw [hacct]
  refine ⟨day, generation, ?_⟩
  simp only [State.entryImage, hfrozen]
  rw [hctl, hacct]
  exact himage

/-- The image formed at an entry to PARKED agrees with the account it froze. -/
theorem imageAgrees_enterParked (s : State) (generation : Nat) : (s.enterParked generation).imageAgrees :=
  ⟨s.time.day, generation, parkImage_entry s generation⟩

/-! ### Open work -/

theorem workClosed_iff (s : State) :
    s.workClosed = true ↔ s.resv.table = [] ∧ ∀ r ∈ s.settle.records, r.state = .stranded := by
  have hstate (r : OutRecord) : ¬(r.state == .unsettled) = true ↔ r.state = .stranded := by
    cases r.state <;> decide
  rw [State.workClosed, Bool.and_eq_true, List.isEmpty_iff, beq_iff_eq, State.unsettledCount, List.countP_eq_zero]
  simp only [hstate]

/-- Open work depends on the reservations and the record states alone. -/
theorem workClosed_congr {s t : State} (htable : t.resv.table.isEmpty = s.resv.table.isEmpty)
    (hstates : t.settle.records.map (·.state) = s.settle.records.map (·.state)) : t.workClosed = s.workClosed := by
  have hcount (u : State) : u.unsettledCount = (u.settle.records.map (·.state)).countP (· == .unsettled) := by
    rw [List.countP_map]; rfl
  rw [State.workClosed, State.workClosed, htable, hcount, hcount, hstates]

/-! ### Ways to keep the park sound -/

/-- The STRANDED records of an outbound list have no answer wait (R143). -/
def SettlementUnit.StrandedStopped (u : SettlementUnit) : Prop := ∀ r ∈ u.records, r.state = .stranded → r.wait = .stopped

/-- With station control and the open work as they were, the image has to stay true. -/
theorem parkSound_of_sameCtl {s t : State} (h : s.ParkSound) (hctl : t.ctl = s.ctl) (hwork : t.workClosed = s.workClosed)
    (hstopped : t.settle.StrandedStopped) (himage : s.ctl.state = .parked → s.imageAgrees → t.imageAgrees) : t.ParkSound := by
  obtain ⟨-, hparked, hparking, hnone⟩ := h
  rw [State.ParkSound, hctl, hwork]
  exact ⟨hstopped, fun hs => ⟨(hparked hs).1, himage hs (hparked hs).2⟩, hparking, hnone⟩

/-- An ACTIVE or UNCONFIGURED station holds no image, whatever work is open. -/
theorem parkSound_of_resting {t : State} (hparked : t.ctl.state ≠ .parked) (hparking : t.ctl.state ≠ .parking)
    (himage : t.ctl.image = []) (hstopped : t.settle.StrandedStopped) : t.ParkSound :=
  ⟨hstopped, fun hs => absurd hs hparked, fun hs => absurd hs hparking, fun _ => himage⟩

/-- In ACTIVE a value event that keeps station control and opens at most UNSETTLED records keeps the park sound. -/
theorem parkSound_of_active {s t : State} (h : s.ParkSound) (hactive : s.ctl.state = .active) (hctl : t.ctl = s.ctl)
    (hrecords : ∀ r ∈ t.settle.records, r ∈ s.settle.records ∨ r.state = .unsettled) : t.ParkSound := by
  obtain ⟨hstopped, -, -, hnone⟩ := h
  refine parkSound_of_resting ?_ ?_ ?_ fun r hr hs => ?_
  · rw [hctl, hactive]; decide
  · rw [hctl, hactive]; decide
  · rw [hctl]; exact hnone (by rw [hactive]; decide)
  · rcases hrecords r hr with hr | hu
    · exact hstopped r hr hs
    · rw [hu] at hs; exact absurd hs (by decide)

/-- The notice of closed work: a station that was not PARKED is sound after it (R59, R157, R164). -/
theorem noticed_parkSound {u : State} (hparked : u.ctl.state ≠ .parked) (himage : u.ctl.image = [])
    (hstopped : u.settle.StrandedStopped) : u.noticed.ParkSound := by
  have hnotice : u.noticed = u.notice := (notice_eq u).symm
  rw [hnotice, State.notice]
  split
  · rename_i hs
    exact ⟨hstopped, fun _ => ⟨hs.2, imageAgrees_enterParked u _⟩, nofun, fun hn => absurd rfl hn⟩
  · rename_i hs
    refine ⟨hstopped, fun h => absurd h hparked, fun h => ?_, fun _ => himage⟩
    exact eq_false_of_ne_true fun hw => hs ⟨h, hw⟩

/-- A value event that only an unparked station makes, and its notice. -/
theorem parkSound_of_noticed {s u : State} (h : s.ParkSound) (hparked : s.ctl.state ≠ .parked) (hctl : u.ctl = s.ctl)
    (hstopped : u.settle.StrandedStopped) : u.noticed.ParkSound :=
  noticed_parkSound (hctl ▸ hparked) (hctl ▸ h.2.2.2 hparked) hstopped

/-- A PARKED station has no reservation. -/
theorem not_parked_of_mem {s : State} (h : s.ParkSound) {r : Reservation} (hr : r ∈ s.resv.table) : s.ctl.state ≠ .parked := by
  intro hs
  rw [((workClosed_iff s).1 (h.2.1 hs).1).1] at hr
  exact List.not_mem_nil hr

/-- Records that are all STRANDED with their waits stopped do not change when nothing but sends and waits moves. -/
theorem pacedList_eq {a b : List OutRecord} (h : PacedList a b) (hall : ∀ r ∈ a, r.state = .stranded ∧ r.wait = .stopped) :
    b = a := by
  induction h with
  | nil => rfl
  | cons hx _ ih =>
    obtain ⟨hs, hw⟩ := hall _ List.mem_cons_self
    rw [hx.2.2.2 hs hw, ih fun r hr => hall r (List.mem_cons_of_mem _ hr)]

theorem pacedList_stopped {a b : List OutRecord} (h : PacedList a b)
    (hall : ∀ r ∈ a, r.state = .stranded → r.wait = .stopped) : ∀ r ∈ b, r.state = .stranded → r.wait = .stopped := by
  induction h with
  | nil => exact hall
  | cons hx _ ih =>
    intro r hr hs
    rcases List.mem_cons.1 hr with rfl | hr
    · have hs' := hx.2.2.1.symm.trans hs
      have hw := hall _ List.mem_cons_self hs'
      rw [hx.2.2.2 hs' hw]
      exact hw
    · exact ih (fun q hq => hall q (List.mem_cons_of_mem _ hq)) r hr hs

theorem quiet_parkSound {s t : State} (h : s.ParkSound) (hq : s.Quiet t) : t.ParkSound := by
  refine parkSound_of_sameCtl h hq.ctl (workClosed_congr (by rw [hq.table]) (pacedList_state hq.records))
    (pacedList_stopped hq.records h.1) fun hs => ?_
  have hstranded := ((workClosed_iff s).1 (h.2.1 hs).1).2
  exact imageAgrees_congr hq.acct hq.stock hq.ctl
    (pacedList_eq hq.records fun r hr => ⟨hstranded r hr, h.1 r hr (hstranded r hr)⟩)

/-! ### The reset -/

/-- The records of a reset are STRANDED with their waits stopped (R160). -/
theorem stranded_map_spec (q : List OutRecord) :
    ∀ r ∈ q.map OutRecord.stranded, r.state = .stranded ∧ r.wait = .stopped := by
  intro r hr
  obtain ⟨x, -, rfl⟩ := List.mem_map.1 hr
  exact ⟨rfl, rfl⟩

theorem stranded_map_self {q : List OutRecord} (h : ∀ r ∈ q, r.state = .stranded ∧ r.wait = .stopped) :
    q.map OutRecord.stranded = q := by
  refine (List.map_congr_left (g := id) fun r hr => ?_).trans (List.map_id q)
  obtain ⟨hs, hw⟩ := h r hr
  obtain ⟨_, _, _, _, _, _⟩ := r
  subst hs hw
  rfl

/-- What a reset's closures leave for the image: the table empty, the records STRANDED, and HELD charged to USED. -/
theorem resetClosed_spec (s : State) :
    s.resetClosed.ctl = s.ctl ∧ s.resetClosed.resv.table = [] ∧ s.resetClosed.stock = s.stock ∧
      s.resetClosed.settle.records = s.settle.records.map OutRecord.stranded ∧
      s.resetClosed.acct = { s.acct with
        held := s.acct.held - heldBy s.resv.table, used := s.acct.used + heldBy s.resv.table } := by
  rw [State.resetClosed, closeReservations_eq, relatch_eq]
  exact ⟨rfl, rfl, rfl, rfl, rfl⟩

/-- The closures of a reset keep a PARKED station's image true: it has no reservation and no UNSETTLED record. -/
theorem resetClosed_imageAgrees {s : State} (h : s.ParkSound) (hs : s.ctl.state = .parked) : s.resetClosed.imageAgrees := by
  obtain ⟨hctl, -, hstock, hrecords, hacct⟩ := resetClosed_spec s
  obtain ⟨htable, hstranded⟩ := (workClosed_iff s).1 (h.2.1 hs).1
  refine imageAgrees_congr ?_ hstock hctl ?_ (h.2.1 hs).2
  · rw [hacct, htable]; rfl
  · rw [hrecords, stranded_map_self fun r hr => ⟨hstranded r hr, h.1 r hr (hstranded r hr)⟩]

theorem resetWork_parkSound {s : State} (h : s.ParkSound) (powerOn : Bool) : (s.resetWork powerOn).ParkSound := by
  obtain ⟨u, g, hq, hreset⟩ := resetWork_split s powerOn
  obtain ⟨hctl, htable, -, hrecords, -⟩ := resetClosed_spec s
  have hstranded : ∀ r ∈ s.resetClosed.settle.records, r.state = .stranded ∧ r.wait = .stopped := by
    rw [hrecords]; exact stranded_map_spec _
  have hkept : u.settle.records = s.resetClosed.settle.records := pacedList_eq hq.records hstranded
  have hstopped : u.settle.StrandedStopped := fun r hr _ => (hstranded r (hkept ▸ hr)).2
  have hclosed : u.workClosed = true :=
    (workClosed_iff u).2 ⟨hq.table.trans htable, fun r hr => (hstranded r (hkept ▸ hr)).1⟩
  have huctl : u.ctl = s.ctl := hq.ctl.trans hctl
  rw [hreset, State.parkAtReset]
  split
  · exact ⟨hstopped, fun _ => ⟨hclosed, imageAgrees_enterParked u _⟩, nofun, fun hn => absurd rfl hn⟩
  · rename_i hs
    refine ⟨hstopped, fun hp => ⟨hclosed, ?_⟩, fun hp => absurd hp hs, fun hn => ?_⟩
    · exact imageAgrees_congr hq.acct hq.stock hq.ctl hkept (resetClosed_imageAgrees h (huctl ▸ hp))
    · exact (congrArg (·.image) huctl).trans (h.2.2.2 (huctl ▸ hn))

/-! ### Every move -/

/-- A matched record is one of the list. -/
theorem matched_mem {s : State} {r : OutRecord} (h : s.matched r.receiver r.serial = some r) : r ∈ s.settle.records :=
  List.mem_of_find?_eq_some h

theorem without_stopped {u : SettlementUnit} (h : u.StrandedStopped) (r : OutRecord) : (u.without r).StrandedStopped :=
  fun x hx => h x (List.mem_of_mem_eraseP hx)

/-- Every move keeps the park sound. -/
theorem move_parkSound (s t : State) (hm : Move s t) (h : s.ParkSound) : t.ParkSound := by
  have hstopped : s.settle.StrandedStopped := h.1
  cases hm with
  | quiet hq => exact quiet_parkSound h hq
  | waits r =>
    refine parkSound_of_sameCtl h rfl (workClosed_congr ?_ rfl) hstopped fun _ =>
      imageAgrees_congr rfl rfl rfl rfl
    exact List.isEmpty_map
  | voucher serial amount hactive =>
    rw [acceptVoucher_eq]
    exact parkSound_of_active h hactive rfl fun r hr => .inl hr
  | reserves items hactive =>
    rw [grantReserved_eq]
    exact parkSound_of_active h hactive rfl fun r hr => .inl hr
  | charges items hactive =>
    rw [grantImmediate_eq]
    exact parkSound_of_active h hactive rfl fun r hr => .inl hr
  | confirms r index i st hr _ _ hst =>
    have hparked := not_parked_of_mem h (reservation_spec hr).1
    rw [State.confirmItem, notice_eq]
    rcases hst with rfl | rfl
    · rw [moveItem_printed]
      exact parkSound_of_noticed h hparked rfl hstopped
    · rw [moveItem_failed]
      exact parkSound_of_noticed h hparked rfl hstopped
  | expires r hr =>
    rw [expire_noticed, closeAsPrinted_eq]
    exact parkSound_of_noticed h (not_parked_of_mem h hr) rfl hstopped
  | sells d n hactive => exact parkSound_of_active h hactive rfl fun r hr => .inl hr
  | delivers d n hactive =>
    rw [deliver_eq]
    exact parkSound_of_active h hactive rfl fun r hr => .inl hr
  | adjusts d p hactive =>
    by_cases hp : s.stock[d].onHand < p
    · rw [adjust_over s hp]
      exact parkSound_of_active h hactive rfl fun r hr => .inl hr
    · rw [adjust_short s hp]
      exact parkSound_of_active h hactive rfl fun r hr => .inl hr
  | consigns k d n hactive =>
    refine parkSound_of_active h hactive rfl fun r hr => ?_
    exact (List.mem_append.1 hr).imp_right fun hr => by rw [List.mem_singleton.1 hr]; rfl
  | gives k g hactive =>
    refine parkSound_of_active h hactive rfl fun r hr => ?_
    exact (List.mem_append.1 hr).imp_right fun hr => by rw [List.mem_singleton.1 hr]; rfl
  | receivesCredit g serial a hpark =>
    rw [receiveCredit_eq]
    exact parkSound_of_sameCtl h rfl rfl hstopped fun hs => absurd hs hpark
  | receivesStock g serial d n hpark =>
    rw [receiveStock_eq]
    exact parkSound_of_sameCtl h rfl rfl hstopped fun hs => absurd hs hpark
  | settles r hpark hr =>
    cases hb : r.body with
    | credit g =>
      rw [settleRecord_credit s hb]
      exact parkSound_of_noticed h hpark rfl (without_stopped hstopped r)
    | stock d c f =>
      rw [settleRecord_stock s hb]
      exact parkSound_of_noticed h hpark rfl (without_stopped hstopped r)
  | restores r hpark hr =>
    cases hb : r.body with
    | credit g =>
      rw [restoreRecord_credit s hb]
      exact parkSound_of_noticed h hpark rfl (without_stopped hstopped r)
    | stock d c f =>
      rw [restoreRecord_stock s hb]
      exact parkSound_of_noticed h hpark rfl (without_stopped hstopped r)
  | strands r hr hstate =>
    obtain ⟨a, b, hab, -, hupdate⟩ := matched_split hr
    have hpark : s.ctl.state ≠ .parked := fun hs =>
      absurd (hstate.symm.trans (((workClosed_iff s).1 (h.2.1 hs).1).2 r (matched_mem hr))) (by decide)
    rw [strand_noticed]
    refine parkSound_of_noticed h hpark rfl fun x hx hs => ?_
    have hx : x ∈ a ++ r.stranded :: b := hupdate ▸ hx
    rcases List.mem_append.1 hx with hx | hx
    · exact hstopped x (hab ▸ List.mem_append_left _ hx) hs
    rcases List.mem_cons.1 hx with rfl | hx
    · rfl
    · exact hstopped x (hab ▸ List.mem_append_right _ (List.mem_cons_of_mem _ hx)) hs
  | audits q => exact parkSound_of_sameCtl h rfl rfl hstopped fun _ => imageAgrees_congr rfl rfl rfl rfl
  | parks =>
    unfold State.park
    split
    · rename_i hs
      have himage : s.ctl.image = [] := h.2.2.2 (by rw [hs]; decide)
      rw [notice_eq]
      exact noticed_parkSound (by exact nofun) himage hstopped
    · exact h
  | resumes =>
    unfold State.resume
    split
    · exact parkSound_of_resting (by exact nofun) (by exact nofun) rfl hstopped
    · exact h
  | configures c hstate =>
    have hpark : s.ctl.state ≠ .parked := by rw [hstate]; decide
    exact parkSound_of_resting (t := s.onCtl fun u => { u with config := c }) hpark
      (by show s.ctl.state ≠ .parking; rw [hstate]; decide) (h.2.2.2 hpark) hstopped
  | commits => exact parkSound_of_resting (by exact nofun) (by exact nofun) rfl fun r hr => absurd hr List.not_mem_nil
  | resets powerOn => exact resetWork_parkSound h powerOn

/-- Settles O59: every move keeps the park sound, and a step is a chain of moves. -/
theorem parkImageStaysTrue : Obligations.ParkImageStaysTrue :=
  fun _ _ h hs => step_keeps move_parkSound (fun _ _ hk => hk) h hs

end Sys2Proof.Machine
end

section
/-! PROOFS. Every command completes and keeps the queue; the model's own clock; which events act; the reset state. -/

namespace Sys2Proof.Machine

/-! ### Every command completes -/

/-- A move leaves the queue as it was. -/
theorem move_pending {s t : State} (hm : Move s t) : t.pending = s.pending := by
  cases hm with
  | quiet hq => exact hq.pending
  | voucher serial amount => rw [acceptVoucher_eq]
  | reserves items => rw [grantReserved_eq]
  | charges items => rw [grantImmediate_eq]
  | confirms r index i st _ _ _ hst =>
    rw [State.confirmItem, notice_eq]
    rcases hst with rfl | rfl
    · rw [moveItem_printed]; rfl
    · rw [moveItem_failed]; rfl
  | expires r => rw [expire_noticed, closeAsPrinted_eq]; rfl
  | delivers d n => rw [deliver_eq]
  | adjusts d p =>
    by_cases hp : s.stock[d].onHand < p
    · rw [adjust_over s hp]
    · rw [adjust_short s hp]
  | receivesCredit g serial a => rw [receiveCredit_eq]
  | receivesStock g serial d n => rw [receiveStock_eq]
  | settles r =>
    cases hb : r.body with
    | credit g => rw [settleRecord_credit s hb]; rfl
    | stock d c f => rw [settleRecord_stock s hb]; rfl
  | restores r =>
    cases hb : r.body with
    | credit g => rw [restoreRecord_credit s hb]; rfl
    | stock d c f => rw [restoreRecord_stock s hb]; rfl
  | strands r => rw [strand_noticed]; rfl
  | parks =>
    unfold State.park
    split
    · rw [notice_eq]; rfl
    · rfl
  | resumes =>
    unfold State.resume
    split <;> rfl
  | resets powerOn =>
    obtain ⟨u, g, hq, hreset⟩ := resetWork_split s powerOn
    rw [hreset, parkAtReset_eq]
    refine hq.pending.trans ?_
    rw [State.resetClosed, closeReservations_eq, relatch_eq]
    rfl
  | waits _ | sells _ _ | consigns _ _ _ | gives _ _ | audits _ | configures _ | commits => rfl

/-- Settles O2: exec of every command is a chain of moves, and no move touches the queue. -/
theorem everyCommandCompletesKeepingTheQueue : Obligations.EveryCommandCompletesKeepingTheQueue := by
  intro c s
  obtain ⟨t, ht, hm⟩ := exec_movesTo c s
  exact ⟨t, ht, hm.keep (P := fun u => u.pending = s.pending) (fun _ _ hm hs => (move_pending hm).trans hs) rfl⟩

/-- Settles O1: a queue with a front command selects step's second arm. -/
theorem stepTakesFrontCommand : Obligations.StepTakesFrontCommand := fun _ _ _ => rfl

/-! ### The clock -/

theorem powered_of_on {s : State} (h : s.power = .on) : s.powered = true := by rw [State.powered, h]; rfl

theorem powered_of_off {s : State} (h : s.power = .off) : s.powered = false := by rw [State.powered, h]; rfl

/-- Without main power no block takes an event. -/
theorem active_of_off {s : State} (h : s.power = .off) : s.active = false := by
  rw [State.active, powered_of_off h, Bool.false_and]

theorem committed_of_unconfigured {s : State} (h : s.ctl.state = .unconfigured) : s.committed = false := by
  rw [State.committed, h]; rfl

theorem committed_of_ne {s : State} (h : s.ctl.state ≠ .unconfigured) : s.committed = true := bne_iff_ne.2 h

/-- Before the commit no block takes an event. -/
theorem active_of_unconfigured {s : State} (h : s.ctl.state = .unconfigured) : s.active = false := by
  rw [State.active, committed_of_unconfigured h, Bool.and_false]

/-- A committed station on main power takes the events of its blocks. -/
theorem active_of_on {s : State} (hp : s.power = .on) (hc : s.ctl.state ≠ .unconfigured) : s.active = true := by
  rw [State.active, powered_of_on hp, committed_of_ne hc, Bool.and_self]

theorem dayRuns_of_unconfigured {s : State} (h : s.ctl.state = .unconfigured) : s.dayRuns = false := by
  rw [State.dayRuns, committed_of_unconfigured h, Bool.false_and, Bool.false_and]

/-- On an empty queue a step is the part's own clock. -/
theorem step_of_empty {s : State} (h : s.pending = []) : step s = .next s.idle := by rw [step, h]

theorem idle_of_due {s : State} {i : Instr} {is : List Instr} (h : s.dueEvents = i :: is) :
    s.idle = { s with pending := i :: is, freeDraws := s.freeDraws + 1 } := by
  rw [State.idle, h]
  rfl

theorem idle_of_none {s : State} (h : s.dueEvents = []) : s.idle = s.passMs := by rw [State.idle, h]

/-- A millisecond, with the three kinds of count that it moves written out. -/
theorem passMs_eq (s : State) : s.passMs = { s with
    time := if s.dayRuns then s.time.passMs else s.time,
    resv := if s.powered then { s.resv with elapsedMs := s.resv.elapsedMs + 1 } else s.resv,
    line := if s.active then s.line.passMs else s.line,
    bal := if s.active then s.bal.passMs else s.bal,
    settle := if s.active then s.settle.passMs else s.settle } := by
  rw [State.passMs]
  cases s.dayRuns <;> cases s.powered <;> cases s.active <;> rfl

/-- Settles O3: by the power and the commit. -/
theorem ownClockRunsOnEmptyQueue : Obligations.OwnClockRunsOnEmptyQueue := by
  intro s hempty
  simp only [step_of_empty hempty]
  refine ⟨fun i is hdue => by rw [idle_of_due hdue], fun hdue hoff => ?_, fun hdue hon hun => ?_, fun hdue hon hcom => ?_⟩
  · rw [idle_of_none hdue, passMs_eq, powered_of_off hoff, active_of_off hoff]
    rfl
  · rw [idle_of_none hdue, passMs_eq, powered_of_on hon, active_of_unconfigured hun, dayRuns_of_unconfigured hun]
    rfl
  · rw [idle_of_none hdue, passMs_eq, powered_of_on hon, active_of_on hon hcom]
    rfl

/-! ### The rows of the requests -/

/-- The row of a supervisor command is the taking of its request with the SUPV it carries. -/
theorem exec_supervisorRow {r : Request} {supv : Bool} {c : Instr} (h : supervisorRow supv r = some c) (s : State) :
    exec c s = .next (s.hostRequest r (some supv) (runRequest supv r)) := by
  cases r <;> cases h <;> rfl

/-- The row of a clerk command is the taking of its request without a sample of SUPV. -/
theorem exec_clerkRow {r : Request} {c : Instr} (h : clerkRow r = some c) (supv : Bool) (s : State) :
    exec c s = .next (s.hostRequest r none (runRequest supv r)) := by
  cases r <;> cases h <;> rfl

theorem takeRequest_unpowered {s : State} (h : s.power = .off) (frame : List Byte) (supv : Option Bool)
    (run : State → State × Answer) : s.takeRequest frame supv run = s := by
  rw [State.takeRequest, if_pos (powered_of_off h)]

theorem takeRequest_rdyLow {s : State} (h : s.power = .on) (hr : s.host.rdy = false) (frame : List Byte)
    (supv : Option Bool) (run : State → State × Answer) : s.takeRequest frame supv run = s.overrunBy := by
  rw [State.takeRequest, if_neg (by rw [powered_of_on h]; decide), if_pos hr]

/-- A transaction whose first byte is not that of a fetch is a request. -/
theorem exec_badFrame {frame : List Byte} (h : frame.headD 0 ≠ 0) (supv : Bool) (s : State) :
    exec (.badFrame frame supv) s = .next (s.takeRequest frame (frameSample frame supv) (frameRequest frame supv)) :=
  congrArg Host.Outcome.next (if_neg h)

/-- Settles O4: whatever the request, it finds RDY low. -/
theorem requestWhileRdyLowIsDiscarded : Obligations.RequestWhileRdyLowIsDiscarded := by
  intro c s hc hon hrdy
  have hoverrun : s.overrunBy = { s with host := { s.host with overrun := s.host.overrun || s.host.answer.isSome } } := rfl
  rw [← hoverrun]
  rcases hc with rfl | ⟨r, hr⟩ | ⟨r, supv, hr⟩ | ⟨frame, supv, rfl, hframe⟩
  · exact congrArg Host.Outcome.next (if_pos (by rw [powered_of_on hon, hrdy]; rfl))
  · rw [exec_clerkRow hr false, State.hostRequest, takeRequest_rdyLow hon hrdy]
  · rw [exec_supervisorRow hr, State.hostRequest, takeRequest_rdyLow hon hrdy]
  · rw [exec_badFrame hframe, takeRequest_rdyLow hon hrdy]

/-! ### Supplies and commit -/

/-- While its block takes no events, an event of a block does nothing. -/
theorem exec_blockEvent_inactive {s : State} (h : s.active = false) {c : Instr} (hc : blockEvent c = true) :
    exec c s = .next s := by
  have hif : ∀ t : State, Host.Outcome.next (if s.active then t else s) = (.next s : Host.Outcome State Fault Refusal) :=
    fun t => by rw [h]; rfl
  cases c with
  | deadline _ | hardLimit _ | rollTick _ | offerWindow | takeWait | attempt | arbitrationLost | attemptAcknowledged
  | attemptFailed | frameArrival _ _ | frameTaken | peerAbsence _ | silenceSecond => exact hif _
  | backoffWaitEnd => rfl
  | balancerWake => exact congrArg Host.Outcome.next (if_neg (by rw [h]; exact Bool.false_ne_true))
  | answerWait k => simp only [exec, execAnswerWait, h]
  | callFrame => simp only [exec, execCallFrame, h]
  | takeFrame => simp only [exec, execTakeFrame, h]
  | offerFrame => simp only [exec, execOfferFrame, h]
  | noneFrame => simp only [exec, execNoneFrame, h]
  | giveFrame => simp only [exec, execGiveFrame, h]
  | gotFrame => simp only [exec, execGotFrame, h]
  | haveFrame => simp only [exec, execHaveFrame, h]
  | voidFrame => simp only [exec, execVoidFrame, h]
  | nohaveFrame => simp only [exec, execNohaveFrame, h]
  | deferFrame => simp only [exec, execDeferFrame, h]
  | queryFrame => simp only [exec, execQueryFrame, h]
  | _ => exact nomatch hc

/-- The commands by what they come from: requests as rows and as bytes, events of a block, and the rest by name. -/
theorem instr_cases (c : Instr) :
    (∃ r, clerkRow r = some c) ∨ (∃ r supv, supervisorRow supv r = some c) ∨ (∃ frame supv, c = .badFrame frame supv) ∨
      blockEvent c = true ∨ actsUnpowered c = true ∨
      c = .requestOverrun ∨ c = .fetch ∨ c = .resetn ∨ (∃ m, c = .powerLoss m) ∨ c = .responseFormed := by
  cases c with
  | status => exact .inl ⟨.status, rfl⟩
  | readAt r i => exact .inl ⟨.readAt r i, rfl⟩
  | readNext => exact .inl ⟨.readNext, rfl⟩
  | imprint items => exact .inl ⟨.imprint items, rfl⟩
  | confirm id i o => exact .inl ⟨.confirm id i o, rfl⟩
  | sell d n => exact .inl ⟨.sell d n, rfl⟩
  | stockIn supv d n => exact .inr (.inl ⟨.stockIn d n, supv, rfl⟩)
  | count supv d p => exact .inr (.inl ⟨.count d p, supv, rfl⟩)
  | consign supv k d n => exact .inr (.inl ⟨.consign k d n, supv, rfl⟩)
  | voucher supv b k n a ch => exact .inr (.inl ⟨.voucher b k n a ch, supv, rfl⟩)
  | tariffOpen supv => exact .inr (.inl ⟨.tariffOpen, supv, rfl⟩)
  | tariffClassSurcharge supv t vs => exact .inr (.inl ⟨.tariffSurcharge t vs, supv, rfl⟩)
  | tariffClassHead supv t r sv bc fs => exact .inr (.inl ⟨.tariffHead t r sv bc fs, supv, rfl⟩)
  | tariffClassBands supv t f bs => exact .inr (.inl ⟨.tariffBands t f bs, supv, rfl⟩)
  | tariffClose supv g d => exact .inr (.inl ⟨.tariffClose g d, supv, rfl⟩)
  | auditClose supv q => exact .inr (.inl ⟨.auditClose q, supv, rfl⟩)
  | setDay supv d sec => exact .inr (.inl ⟨.setDay d sec, supv, rfl⟩)
  | park supv => exact .inr (.inl ⟨.park, supv, rfl⟩)
  | resume supv => exact .inr (.inl ⟨.resume, supv, rfl⟩)
  | configSet supv i n v => exact .inr (.inl ⟨.configSet i n v, supv, rfl⟩)
  | configCommit supv => exact .inr (.inl ⟨.configCommit, supv, rfl⟩)
  | _ => simp [blockEvent, actsUnpowered]

/-- Without main power a command that does not act there does nothing. -/
theorem exec_unpowered {s : State} (h : s.power = .off) {c : Instr} (hc : actsUnpowered c = false) : exec c s = .next s := by
  have hp : s.powered = false := powered_of_off h
  rcases instr_cases c with ⟨r, hr⟩ | ⟨r, supv, hr⟩ | ⟨frame, supv, rfl⟩ | hb | ha | rfl | rfl | rfl | ⟨m, rfl⟩ | rfl
  · rw [exec_clerkRow hr false, State.hostRequest, takeRequest_unpowered h]
  · rw [exec_supervisorRow hr, State.hostRequest, takeRequest_unpowered h]
  · by_cases hz : frame.headD 0 = 0
    · exact congrArg Host.Outcome.next (if_pos hz)
    · rw [exec_badFrame hz, takeRequest_unpowered h]
  · exact exec_blockEvent_inactive (active_of_off h) hb
  · rw [ha] at hc; exact nomatch hc
  · exact congrArg Host.Outcome.next (if_neg (by rw [hp]; exact Bool.false_ne_true))
  · rfl
  · exact congrArg Host.Outcome.next (if_neg (by rw [hp]; decide))
  · exact congrArg Host.Outcome.next (if_neg (by rw [hp]; decide))
  · exact congrArg Host.Outcome.next (if_neg (by rw [hp]; decide))

/-- The reset of a station that is not committed, its table and its outbound list empty: what is left to do is the rebuilding,
the mark, and a tariff store that is as before commit (R15, R162, R171, R186). -/
theorem resetWork_unconfigured {s : State} (hun : s.ctl.state = .unconfigured) (htable : s.resv.table = [])
    (hrecords : s.settle.records = []) (htariff : s.tariff = TariffStore.initial) (powerOn : Bool)
    (htime : s.time = Timebase.held ∨ s.time.valid = false ∧ powerOn = true) :
    s.resetWork powerOn = { s with
      host := HostPort.initial, resv := { s.resv with nextId := 1, elapsedMs := 0 },
      line := LineController.inactive, bal := Balancer.initial, time := Timebase.held, power := .on,
      incomplete := false } := by
  obtain ⟨_, _, _, ⟨_, _, _, _⟩, _, _, _, _, ⟨_, _, _⟩, ⟨_, _, _, _, _, _, _⟩, ⟨_, _, _⟩, _, _, _, _, _⟩ := s
  simp only at hun htable hrecords htariff htime
  subst hun htable hrecords htariff
  rcases htime with htime | ⟨rfl, rfl⟩
  · obtain ⟨rfl, rfl, rfl, rfl, rfl, rfl, rfl⟩ := Timebase.mk.inj htime
    cases powerOn <;> rfl
  · rfl

/-- Settles O58: by the condition under which each command acts. -/
theorem suppliesAndCommitGateTheBlocks : Obligations.SuppliesAndCommitGateTheBlocks := by
  intro s
  refine ⟨fun m hon => ?_, fun hoff => ?_, fun hoff hcom hlost hvalid => ?_, fun hoff c hc => exec_unpowered hoff hc,
    fun hun c hc => ?_, fun hun htable hrecords htariff htime => ⟨fun hon hvalid => ?_, ?_⟩⟩
  · exact congrArg Host.Outcome.next (if_pos (powered_of_on hon))
  · exact ⟨_, congrArg Host.Outcome.next (if_neg (by rw [powered_of_off hoff]; decide)), rfl, rfl, rfl, rfl⟩
  · have hruns : s.dayRuns = true := by rw [State.dayRuns, committed_of_ne hcom, hlost, hvalid]; rfl
    refine (congrArg Host.Outcome.next (if_pos hruns)).trans ?_
    rw [powered_of_off hoff]
    rfl
  · rcases hc with hb | rfl
    · exact exec_blockEvent_inactive (active_of_unconfigured hun) hb
    · exact congrArg Host.Outcome.next (if_neg (by rw [dayRuns_of_unconfigured hun]; decide))
  · have hhold : s.holdReset = s := if_neg (by rw [dayRuns_of_unconfigured hun]; decide)
    refine (congrArg Host.Outcome.next (if_pos (powered_of_on hon))).trans ?_
    rw [hhold, resetWork_unconfigured hun htable hrecords htariff false (.inl (htime hvalid)), ← htime hvalid, ← hon]
  · refine congrArg Host.Outcome.next (resetWork_unconfigured hun htable hrecords htariff true ?_)
    exact (Bool.eq_false_or_eq_true s.time.valid).imp htime fun hv => ⟨hv, rfl⟩

/-! ### The reset state -/

/-- Settles O60: every block of the state after reset is empty. -/
theorem resetMeetsTheInvariants : Obligations.ResetMeetsTheInvariants := by
  refine ⟨by decide, fun d => ?_, by decide, by decide, ?_⟩
  · have hstock : State.reset.stock[d] = Denom.zero := Vector.getElem_replicate d.isLt
    have hopen : State.reset.openStock d = 0 := rfl
    simp only [hstock, State.committedStock, State.stockTotal, hopen]
    decide
  · exact parkSound_of_resting (by decide) (by decide) rfl fun r hr => absurd hr List.not_mem_nil

end Sys2Proof.Machine
end

section
/-! PROOFS. Bytes: fields laid out and read back, request frames and branch frames (R101, R181, R189 to R191). -/

namespace Sys2Proof.Machine

/-! ### Fields -/

/-- Fields laid out one after another, each as a number of its width (chapter 10, FORMATS). -/
def fieldBytes (fields : List (Nat × Nat)) : List Byte := fields.flatMap fun f => beBytes f.1 f.2

@[simp] theorem fieldBytes_nil : fieldBytes [] = [] := rfl

@[simp] theorem fieldBytes_cons (f : Nat × Nat) (fields : List (Nat × Nat)) :
    fieldBytes (f :: fields) = beBytes f.1 f.2 ++ fieldBytes fields := rfl

theorem natOfBytes_foldl (bs : List Byte) (n : Nat) :
    bs.foldl (fun n b => 256 * n + b.toNat) n = 256 ^ bs.length * n + natOfBytes bs := by
  induction bs generalizing n with
  | nil => simp [natOfBytes]
  | cons b bs ih =>
    rw [natOfBytes, List.foldl_cons, List.foldl_cons, ih, ih (256 * 0 + b.toNat), List.length_cons, Nat.pow_succ,
      Nat.mul_zero, Nat.zero_add, Nat.mul_add, Nat.mul_assoc, Nat.add_assoc]

/-- The bytes of a number spell it, modulo the width. -/
theorem natOfBytes_beBytes (k n : Nat) : natOfBytes (beBytes k n) = n % 256 ^ k := by
  induction k with
  | zero => rw [Nat.pow_zero, Nat.mod_one]; rfl
  | succ k ih =>
    have hfirst : (BitVec.ofNat 8 (n / 256 ^ k)).toNat = n / 256 ^ k % 256 := BitVec.toNat_ofNat _ _
    rw [beBytes, natOfBytes, List.foldl_cons, natOfBytes_foldl, beBytes_length, ih, hfirst, Nat.mul_zero, Nat.zero_add,
      Nat.pow_succ, Nat.mod_mul, Nat.add_comm]

/-- Laid-out fields split into their numbers. -/
theorem fieldsOf_fieldBytes (fields : List (Nat × Nat)) :
    fieldsOf (fields.map (·.1)) (fieldBytes fields) = some (fields.map fun f => f.2 % 256 ^ f.1) := by
  induction fields with
  | nil => rfl
  | cons f fields ih =>
    have hlen : (beBytes f.1 f.2).length = f.1 := beBytes_length _ _
    rw [List.map_cons, fieldsOf, fieldBytes_cons, if_neg (by rw [List.length_append, hlen]; omega),
      List.drop_left' hlen, List.take_left' hlen, ih, natOfBytes_beBytes]
    rfl

theorem laysOut_fieldBytes (fields : List (Nat × Nat)) : laysOut (fieldBytes fields) fields := fieldsOf_fieldBytes fields

/-- A word read back from its field. -/
theorem ofNat_field {w : Nat} (k : Nat) (hk : 2 ^ w = 256 ^ k) (x : BitVec w) : BitVec.ofNat w (x.toNat % 256 ^ k) = x := by
  rw [Nat.mod_eq_of_lt (hk ▸ x.isLt), BitVec.ofNat_toNat, BitVec.setWidth_eq]

/-- A word read back from its bytes. -/
theorem ofNat_beBytes {w : Nat} (k : Nat) (hk : 2 ^ w = 256 ^ k) (x : BitVec w) :
    BitVec.ofNat w (natOfBytes (beBytes k x.toNat)) = x := by
  rw [natOfBytes_beBytes, ofNat_field k hk]

/-- Groups of one length are read back from the bytes that follow one another. -/
theorem groupsOf_flatMap {α : Type} {k : Nat} {f : α → List Byte} (hf : ∀ x, (f x).length = k) (xs : List α) :
    groupsOf k xs.length (xs.flatMap f) = xs.map f := by
  induction xs with
  | nil => rfl
  | cons x xs ih =>
    rw [List.length_cons, List.flatMap_cons, groupsOf, List.take_left' (hf x), List.drop_left' (hf x), ih, List.map_cons]

/-- The group at a position of the bytes that follow one another. -/
theorem take_drop_flatMap {α : Type} {k : Nat} {f : α → List Byte} (hf : ∀ x, (f x).length = k) {xs : List α} {i : Nat}
    (hi : i < xs.length) : ((xs.flatMap f).drop (k * i)).take k = f xs[i] := by
  induction xs generalizing i with
  | nil => exact absurd hi (Nat.not_lt_zero i)
  | cons x xs ih =>
    cases i with
    | zero => rw [Nat.mul_zero, List.drop_zero, List.flatMap_cons, List.take_left' (hf x), List.getElem_cons_zero]
    | succ i =>
      have hdrop : k * (i + 1) = (f x).length + k * i := by rw [hf, Nat.mul_succ, Nat.add_comm]
      rw [List.flatMap_cons, hdrop, ← List.drop_drop, List.drop_left, List.getElem_cons_succ,
        ih (Nat.lt_of_succ_lt_succ hi)]

theorem flatMap_length_const {α : Type} {k : Nat} {f : α → List Byte} (hf : ∀ x, (f x).length = k) (xs : List α) :
    (xs.flatMap f).length = k * xs.length := by
  induction xs with
  | nil => rfl
  | cons x xs ih => rw [List.flatMap_cons, List.length_append, hf, ih, List.length_cons, Nat.mul_succ, Nat.add_comm]

/-! ### Request frames -/

/-- The frame of a request that fits passes the host port's checks of its length and sum (R181). -/
theorem checkFrame_requestFrame {r : Request} (h : r.paramCount ≤ 60) :
    checkFrame (requestFrame r) = parseParams (requestCode r) (requestParams r) := by
  have hframe : requestFrame r = requestCode r :: BitVec.ofNat 8 (requestParams r).length ::
      (requestParams r ++ [0 - byteSum (requestCode r :: BitVec.ofNat 8 (requestParams r).length :: requestParams r)]) := rfl
  have hsum : byteSum (requestFrame r) = 0 := byteSum_withCheck _
  have hlen : (BitVec.ofNat 8 (requestParams r).length).toNat = r.paramCount := by
    rw [BitVec.toNat_ofNat, requestParams_length, Nat.mod_eq_of_lt (by omega)]
  rw [hframe] at hsum ⊢
  rw [checkFrame, if_pos, if_pos hsum, List.dropLast_concat]
  rw [hlen]
  refine ⟨h, ?_⟩
  simp only [List.length_cons, List.length_append, List.length_nil, requestParams_length]

theorem byte_eq_field (b : Byte) : [b] = beBytes 1 b.toNat := by
  rw [beBytes_one, BitVec.ofNat_toNat, BitVec.setWidth_eq]

theorem itemBytes_length (i : Item) : (itemBytes i).length = 5 := by simp [itemBytes]

theorem itemOfBytes_itemBytes (i : Item) : itemOfBytes (itemBytes i) = i := by
  have hweight : [BitVec.ofNat 8 (i.weight.toNat / 256 ^ 1), BitVec.ofNat 8 (i.weight.toNat / 256 ^ 0)] =
      beBytes 2 i.weight.toNat := rfl
  have h := ofNat_beBytes 2 (by decide) i.weight
  rw [← hweight] at h
  exact congrArg (fun w => { i with weight := w }) h

theorem bandBytes_length (b : BandFields) : (bandBytes b).length = 12 := by simp [bandBytes]

theorem bandOfBytes_bandBytes (b : BandFields) : bandOfBytes (bandBytes b) = b := by
  have h2 (n : Nat) : (beBytes 2 n).length = 2 := beBytes_length _ _
  have h4 (n : Nat) : (beBytes 4 n).length = 4 := beBytes_length _ _
  have hbytes : bandBytes b = beBytes 2 b.upper.toNat ++ (beBytes 4 b.base.toNat ++ (beBytes 2 b.stepSize.toNat ++
      beBytes 4 b.stepCharge.toNat)) := by simp only [bandBytes, List.append_assoc]
  have hdrop6 : (bandBytes b).drop 6 = beBytes 2 b.stepSize.toNat ++ beBytes 4 b.stepCharge.toNat := by
    rw [hbytes, show 6 = 2 + 4 from rfl, ← List.drop_drop, List.drop_left' (h2 _), List.drop_left' (h4 _)]
  have hdrop8 : (bandBytes b).drop 8 = beBytes 4 b.stepCharge.toNat := by
    rw [show 8 = 6 + 2 from rfl, ← List.drop_drop, hdrop6, List.drop_left' (h2 _)]
  rw [bandOfBytes, hdrop6, hdrop8, List.take_left' (h2 _), List.take_of_length_le (Nat.le_of_eq (h4 _)), hbytes,
    List.take_left' (h2 _), List.drop_left' (h2 _), List.take_left' (h4 _)]
  simp only [ofNat_beBytes 2 (by decide : 2 ^ 16 = 256 ^ 2), ofNat_beBytes 4 (by decide : 2 ^ 32 = 256 ^ 4)]

/-- A TARIFF_CLASS reads back from its parameters (R181, R190). -/
theorem parseTariffClass_surcharge (t : Byte) (vs : Vector (BitVec 16) 8) :
    parseTariffClass (requestParams (.tariffSurcharge t vs)) = .ok (.tariffSurcharge t vs) := by
  have hf (v : BitVec 16) : (beBytes 2 v.toNat).length = 2 := beBytes_length _ _
  have hlen : (vs.toList.flatMap fun v => beBytes 2 v.toNat).length = 16 := by
    rw [flatMap_length_const hf, Vector.length_toList]
  rw [requestParams]
  delta parseTariffClass
  dsimp only
  rw [if_pos rfl, if_pos hlen]
  refine congrArg (fun v => Except.ok (Request.tariffSurcharge t v)) (Vector.ext fun i hi => ?_)
  rw [Vector.getElem_ofFn, take_drop_flatMap hf (by rw [Vector.length_toList]; exact hi),
    ofNat_beBytes 2 (by decide), Vector.getElem_toList]

theorem parseTariffClass_head (t r sv bc : Byte) {fs : List (BitVec 24)} (h : fs.length ≤ 18) :
    parseTariffClass (requestParams (.tariffHead t r sv bc fs)) = .ok (.tariffHead t r sv bc fs) := by
  have hf (f : BitVec 24) : (beBytes 3 f.toNat).length = 3 := beBytes_length _ _
  have hcount : (BitVec.ofNat 8 fs.length).toNat = fs.length := by
    rw [BitVec.toNat_ofNat, Nat.mod_eq_of_lt (by omega)]
  rw [requestParams]
  delta parseTariffClass
  dsimp only
  rw [if_neg (by decide), if_pos rfl]
  simp only [hcount, flatMap_length_const hf, if_true, groupsOf_flatMap hf, List.map_map]
  refine congrArg (fun l => Except.ok (Request.tariffHead t r sv bc l)) ?_
  exact (List.map_congr_left fun f _ => ofNat_beBytes 3 (by decide) f).trans (List.map_id fs)

theorem parseTariffClass_bands (t f : Byte) {bs : List BandFields} (h : bs.length ≤ 4) :
    parseTariffClass (requestParams (.tariffBands t f bs)) = .ok (.tariffBands t f bs) := by
  have hcount : (BitVec.ofNat 8 bs.length).toNat = bs.length := by
    rw [BitVec.toNat_ofNat, Nat.mod_eq_of_lt (by omega)]
  rw [requestParams]
  delta parseTariffClass
  dsimp only
  rw [if_neg (by decide), if_neg (by decide), if_pos rfl]
  simp only [hcount, flatMap_length_const bandBytes_length, if_true, groupsOf_flatMap bandBytes_length, List.map_map]
  refine congrArg (fun l => Except.ok (Request.tariffBands t f l)) ?_
  exact (List.map_congr_left fun b _ => bandOfBytes_bandBytes b).trans (List.map_id bs)

theorem parseTariffClass_other (t : Byte) {kind : Byte} (body : List Byte) (h : 3 ≤ kind.toNat) :
    parseTariffClass (requestParams (.tariffOther t kind body)) = .ok (.tariffOther t kind body) := by
  have hne (n : Byte) (hn : n.toNat < 3) : kind ≠ n := by rintro rfl; omega
  rw [requestParams]
  delta parseTariffClass
  dsimp only
  rw [if_neg (hne 0 (by decide)), if_neg (hne 1 (by decide)), if_neg (hne 2 (by decide))]

theorem paramCount_le_of_wellFormed {r : Request} (h : r.wellFormed = true) : r.paramCount ≤ 60 :=
  of_decide_eq_true (Bool.and_eq_true_iff.1 h).1

/-- The fields that the parameters of the commands of one length hold (R190). -/
def paramFields : Request → List (Nat × Nat)
  | .readAt d c | .sell d c | .stockIn d c | .count d c | .tariffClose d c => [(1, d.toNat), (2, c.toNat)]
  | .consign k d c => [(1, k.toNat), (1, d.toNat), (2, c.toNat)]
  | .voucher b k n a c => [(2, b.toNat), (1, k.toNat), (4, n.toNat), (4, a.toNat), (4, c.toNat)]
  | .auditClose q => [(4, q.toNat)]
  | .setDay d sec => [(2, d.toNat), (4, sec.toNat)]
  | .configSet i n v => [(1, i.toNat), (1, n.toNat), (8, v.toNat)]
  | _ => []

/-- A request that fits reads back from its parameters (R190). -/
theorem parseParams_requestParams {r : Request} (h : r.wellFormed = true) :
    parseParams (requestCode r) (requestParams r) = .ok r := by
  have h8 (x : BitVec 8) : BitVec.ofNat 8 (x.toNat % 256) = x := ofNat_field 1 (by decide) x
  have h16 (x : BitVec 16) : BitVec.ofNat 16 (x.toNat % 65536) = x := ofNat_field 2 (by decide) x
  have h32 (x : BitVec 32) : BitVec.ofNat 32 (x.toNat % 4294967296) = x := ofNat_field 4 (by decide) x
  have h64 (x : BitVec 64) : BitVec.ofNat 64 (x.toNat % 18446744073709551616) = x := ofNat_field 8 (by decide) x
  have hfits := paramCount_le_of_wellFormed h
  have hf := fieldsOf_fieldBytes (paramFields r)
  cases r with
  | status | readNext | tariffOpen | park | resume | configCommit | confirm _ _ _ => rfl
  | tariffSurcharge t vs => exact parseTariffClass_surcharge t vs
  | tariffHead t r sv bc fs =>
    exact parseTariffClass_head t r sv bc (by simp only [Request.paramCount] at hfits; omega)
  | tariffBands t f bs => exact parseTariffClass_bands t f (by simp only [Request.paramCount] at hfits; omega)
  | tariffOther t kind body => exact parseTariffClass_other t body (of_decide_eq_true (Bool.and_eq_true_iff.1 h).2)
  | imprint items =>
    have hcount : (BitVec.ofNat 8 items.length).toNat = items.length := by
      simp only [Request.paramCount] at hfits
      rw [BitVec.toNat_ofNat, Nat.mod_eq_of_lt (by omega)]
    have hitems : (items.map itemBytes).map itemOfBytes = items := by
      rw [List.map_map]
      exact (List.map_congr_left fun i _ => itemOfBytes_itemBytes i).trans (List.map_id items)
    delta parseParams
    simp [requestCode, requestParams, hcount, flatMap_length_const itemBytes_length,
      groupsOf_flatMap itemBytes_length, hitems]
  | readAt _ _ | sell _ _ | stockIn _ _ | count _ _ | tariffClose _ _ | consign _ _ _ | voucher _ _ _ _ _ | auditClose _
  | setDay _ _ | configSet _ _ _ =>
    simp only [paramFields, fieldBytes_cons, fieldBytes_nil, ← byte_eq_field, List.append_nil, List.cons_append,
      List.nil_append, List.map_cons, List.map_nil] at hf
    delta parseParams
    simp [requestCode, requestParams, hf, h8, h16, h32, h64]

/-- Settles O10. -/
theorem requestFramesReadBack : Obligations.RequestFramesReadBack := fun _ h =>
  (checkFrame_requestFrame (paramCount_le_of_wellFormed h)).trans (parseParams_requestParams h)

end Sys2Proof.Machine
end

section
/-! PROOFS. The frame checks (R181): what reads as no request, and the order in which it is found out; then the admission
tests and SUPV, as rows and as frames (R182). -/

namespace Sys2Proof.Machine

/-! ### Frames that fail a check -/

/-- Bytes that do not fill the fields split into none. -/
theorem fieldsOf_eq_none {ws : List Nat} {bs : List Byte} (h : bs.length ≠ ws.sum) : fieldsOf ws bs = none := by
  induction ws generalizing bs with
  | nil =>
    cases bs with
    | nil => exact absurd rfl h
    | cons b bs => rfl
  | cons w ws ih =>
    rw [fieldsOf]
    split
    · rfl
    · rename_i hw
      rw [List.sum_cons] at h
      rw [ih (by rw [List.length_drop]; omega)]
      rfl

/-- Check 3 of R181: a code that R190 does not list. -/
theorem parseParams_unknown {code : Byte} (h : code ∉ commandCodes) (ps : List Byte) :
    parseParams code ps = .error .unknownCommand := by
  simp only [commandCodes, List.mem_cons, List.not_mem_nil, or_false, not_or] at h
  delta parseParams
  simp only [h, if_false]

/-- Check 4 of R181 for the commands of one length. -/
theorem parseParams_fixed {code : Byte} {k : Nat} {ps : List Byte} (hk : (code, k) ∈ fixedLengths) (hn : ps.length ≠ k) :
    parseParams code ps = .error .badLength := by
  have hnone (ws : List Nat) (hw : ws.sum = k) : fieldsOf ws ps = none := fieldsOf_eq_none (hw ▸ hn)
  simp only [fixedLengths, List.mem_cons, List.not_mem_nil, or_false, Prod.mk.injEq] at hk
  delta parseParams
  by_cases h3 : code = 0x11
  · subst h3
    match ps, hn with
    | [], _ | [_], _ | [_, _], _ | _ :: _ :: _ :: _ :: _, _ => rfl
    | [_, _, _], hn => exact absurd (by simp at hk; exact hk.symm) hn
  by_cases h0 : k = 0
  · obtain ⟨p, q, rfl⟩ := List.exists_cons_of_length_pos (Nat.pos_of_ne_zero (h0 ▸ hn))
    subst h0
    simp at hk
    rcases hk with rfl | rfl | rfl | rfl | rfl | rfl <;> rfl
  · rcases hk with ⟨rfl, rfl⟩ | ⟨rfl, rfl⟩ | ⟨rfl, rfl⟩ | ⟨rfl, rfl⟩ | ⟨rfl, rfl⟩ | ⟨rfl, rfl⟩ | ⟨rfl, rfl⟩ | ⟨rfl, rfl⟩ |
      ⟨rfl, rfl⟩ | ⟨rfl, rfl⟩ | ⟨rfl, rfl⟩ | ⟨rfl, rfl⟩ | ⟨rfl, rfl⟩ | ⟨rfl, rfl⟩ | ⟨rfl, rfl⟩ | ⟨rfl, rfl⟩ | ⟨rfl, rfl⟩ <;>
      simp (disch := decide) [hnone] at h0 h3 ⊢

/-- Check 4 of R181 for TARIFF_CLASS: a length that its section does not declare. -/
theorem parseTariffClass_badLength {len check : Byte} {ps : List Byte} (hlen : len.toNat = ps.length)
    (h : parametersFit (0x41 :: len :: (ps ++ [check])) = false) : parseTariffClass ps = .error .badLength := by
  match ps, hlen, h with
  | [], _, _ | [_], _, _ => rfl
  | t :: kind :: body, hlen, h =>
    have hfit : (if len.toNat < 2 then false
        else if kind = 0 then len.toNat == 18
        else if kind = 1 then 6 ≤ len.toNat && len.toNat == 6 + 3 * ((body ++ [check]).getD 1 0).toNat
        else if kind = 2 then 4 ≤ len.toNat && len.toNat == 4 + 12 * ((body ++ [check]).getD 1 0).toNat
        else true) = false := h
    rw [hlen, if_neg (by simp)] at hfit
    delta parseTariffClass
    dsimp only
    by_cases h0 : kind = 0
    · rw [if_pos h0] at hfit ⊢
      exact if_neg (by simpa using hfit)
    by_cases h1 : kind = 1
    · rw [if_neg h0, if_pos h1] at hfit ⊢
      match body, hfit with
      | [], _ | [_], _ | [_, _], _ | [_, _, _], _ => rfl
      | r :: z :: sv :: bc :: rest, hfit => exact if_neg (by simp at hfit; omega)
    by_cases h2 : kind = 2
    · rw [if_neg h0, if_neg h1, if_pos h2] at hfit ⊢
      match body, hfit with
      | [], _ | [_], _ => rfl
      | f :: k :: rest, hfit => exact if_neg (by simp at hfit; omega)
    · rw [if_neg h0, if_neg h1, if_neg h2] at hfit
      exact nomatch hfit

/-- Check 4 of R181: a length that the command does not have. -/
theorem parseParams_badLength {code len check : Byte} {ps : List Byte} (hcode : code ∈ commandCodes)
    (hlen : len.toNat = ps.length) (h : parametersFit (code :: len :: (ps ++ [check])) = false) :
    parseParams code ps = .error .badLength := by
  by_cases h41 : code = 0x41
  · subst h41
    exact parseTariffClass_badLength hlen h
  by_cases h10 : code = 0x10
  · subst h10
    match ps, hlen, h with
    | [], _, _ => rfl
    | c :: rest, hlen, h =>
      have hfit : (1 ≤ len.toNat && len.toNat == 1 + 5 * c.toNat) = false := h
      rw [hlen] at hfit
      exact if_neg (c := rest.length = 5 * c.toNat) (by simp at hfit; omega)
  · have hfixed : ∃ k, fixedLengths.lookup code = some k ∧ (code, k) ∈ fixedLengths := by
      simp only [commandCodes, List.mem_cons, List.not_mem_nil, or_false, h41, h10, false_or] at hcode
      rcases hcode with rfl | rfl | rfl | rfl | rfl | rfl | rfl | rfl | rfl | rfl | rfl | rfl | rfl | rfl | rfl | rfl | rfl <;>
        exact ⟨_, rfl, by decide⟩
    obtain ⟨k, hlookup, hmem⟩ := hfixed
    refine parseParams_fixed hmem ?_
    have hhead : (code :: len :: (ps ++ [check])).getD 0 0 = code := rfl
    simp only [parametersFit, hhead, hlookup] at h
    rw [← hlen]
    exact fun he => absurd h (by rw [List.getD_cons_succ, List.getD_cons_zero, he]; simp)

/-- The bytes that pass checks 1 and 2 are a code, its length byte, that many parameters and a check. -/
theorem frame_of_lengthByteFits {frame : List Byte} (h : lengthByteFits frame = true) :
    ∃ code len ps check, frame = code :: len :: (ps ++ [check]) ∧ len.toNat = ps.length ∧ len.toNat ≤ 60 := by
  rw [lengthByteFits, Bool.and_eq_true, decide_eq_true_eq, beq_iff_eq] at h
  match frame, h with
  | [], h => simp at h
  | [_], h => simp at h
  | code :: len :: rest, ⟨h60, hlen⟩ =>
    simp only [List.getD_cons_succ, List.getD_cons_zero, List.length_cons] at h60 hlen
    obtain ⟨ps, check, rfl⟩ := (List.eq_nil_or_concat rest).resolve_left (by rintro rfl; simp at hlen)
    rw [List.concat_eq_append] at hlen ⊢
    exact ⟨code, len, ps, check, rfl, by simp at hlen; omega, h60⟩

theorem checkFrame_badLength {frame : List Byte} (h : lengthByteFits frame = false) : checkFrame frame = .error .badFrame := by
  match frame, h with
  | [], _ | [_], _ => rfl
  | code :: len :: rest, h =>
    refine if_neg fun hfit => ?_
    rw [lengthByteFits, Bool.and_eq_false_iff, decide_eq_false_iff_not, beq_eq_false_iff_ne] at h
    exact h.elim (fun hn => hn hfit.1) fun hn => hn hfit.2

/-- The bytes that pass checks 1 and 2 are what their code and parameters spell. -/
theorem checkFrame_parse {code len check : Byte} {ps : List Byte} (hlen : len.toNat = ps.length) (h60 : len.toNat ≤ 60)
    (hsum : byteSum (code :: len :: (ps ++ [check])) = 0) :
    checkFrame (code :: len :: (ps ++ [check])) = parseParams code ps := by
  rw [checkFrame, if_pos ⟨h60, by simp [hlen]⟩, if_pos hsum, List.dropLast_concat]

/-- The order of R181 is that of the host port's checks. -/
theorem checkFrame_frameFault {frame : List Byte} {c : Code} (h : frameFault frame = some c) : checkFrame frame = .error c := by
  rw [frameFault] at h
  split at h
  · rename_i hfits
    obtain rfl := Option.some.inj h
    exact checkFrame_badLength hfits
  rename_i hfits
  obtain ⟨code, len, ps, check, rfl, hlen, h60⟩ := frame_of_lengthByteFits (eq_true_of_ne_false hfits)
  split at h
  · rename_i hsum
    obtain rfl := Option.some.inj h
    rw [checkFrame, if_pos ⟨h60, by simp [hlen]⟩, if_neg hsum]
  rename_i hsum
  rw [checkFrame_parse hlen h60 (Classical.not_not.1 hsum)]
  split at h
  · rename_i hcode
    obtain rfl := Option.some.inj h
    exact parseParams_unknown hcode ps
  rename_i hcode
  split at h
  · rename_i hfit
    obtain rfl := Option.some.inj h
    exact parseParams_badLength (Classical.not_not.1 hcode) hlen hfit
  · exact nomatch h

/-! ### Taking and refusing -/

/-- The state in which the owning block of a taken request runs: the request in the buffer, the response before it and the
overrun flag discarded, RDY low (R179). -/
def State.accepting (r : Request) (supv : Option Bool) (s : State) : State := { s with
  host := { s.host with request := requestFrame r, response := none, overrun := false, rdy := false,
                        supv := supv.getD s.host.supv } }

/-- A request that fits and finds RDY high is taken, and its block's result awaits its response. -/
theorem hostRequest_taken {s t : State} {r : Request} {supv : Option Bool} {run : State → State × Answer} {a : Answer}
    (h : s.ready) (hr : r.paramCount ≤ 60) (hrun : run (s.accepting r supv) = (t, a)) :
    s.hostRequest r supv run = { t with host := { t.host with answer := some a } } :=
  (hostRequest_ready h hr supv run).trans (congrArg State.answered hrun)

/-- A taken request that its block refuses leaves its answer in the host port, and nothing else. -/
theorem hostRequest_refused {s : State} {r : Request} {supv : Option Bool} {run : State → State × Answer} {a : Answer}
    (h : s.ready) (hr : r.paramCount ≤ 60) (hrun : run (s.accepting r supv) = (s.accepting r supv, a)) :
    s.hostRequest r supv run = { s with host := s.host.took r supv a } :=
  hostRequest_taken h hr hrun

/-- Bytes that are taken are answered by the frame checks and the block they choose. -/
theorem exec_badFrame_ready {s : State} (h : s.ready) {frame : List Byte} (hframe : frame.headD 0 ≠ 0) (supv : Bool) :
    exec (.badFrame frame supv) s =
      .next (State.answered (frameRequest frame supv (s.acceptRequest frame (frameSample frame supv)))) := by
  obtain ⟨hon, hrdy⟩ := h
  rw [exec_badFrame hframe, State.takeRequest, if_neg (by rw [powered_of_on hon]; decide), if_neg (by rw [hrdy]; decide)]

/-- Settles O8: the first check that fails is the answer, before any block is asked. -/
theorem failedFrameChecksAreAnsweredInOrder : Obligations.FailedFrameChecksAreAnsweredInOrder := by
  intro frame supv s c hready hframe hfault
  have hcheck := checkFrame_frameFault hfault
  rw [exec_badFrame_ready hready hframe, frameRequest, frameSample, hcheck]
  rfl

/-! ### Frames as rows -/

theorem isClerk_eq (r : Request) : isClerk r = (clerkRow r).isSome := by cases r <;> rfl

theorem clerkRow_none_of_supervisorRow {r : Request} {supv : Bool} {c : Instr} (h : supervisorRow supv r = some c) :
    clerkRow r = none := by
  cases r with
  | status | readAt _ _ | readNext | imprint _ | confirm _ _ _ | sell _ _ => exact nomatch h
  | _ => rfl

/-- A request written as its frame is taken as the request it spells. -/
theorem exec_requestFrame {r : Request} (h : r.wellFormed = true) (supv : Bool) (s : State) :
    exec (.badFrame (requestFrame r) supv) s =
      .next (s.hostRequest r (if (clerkRow r).isSome then none else some supv) (runRequest supv r)) := by
  have hcheck := requestFramesReadBack r h
  have hhead : (requestFrame r).headD 0 ≠ 0 := by
    show requestCode r ≠ 0
    cases r <;> simp only [requestCode] <;> decide
  have hrun : frameRequest (requestFrame r) supv = runRequest supv r := by
    funext t
    rw [frameRequest, hcheck]
  have hsample : frameSample (requestFrame r) supv = if (clerkRow r).isSome then none else some supv := by
    rw [frameSample, hcheck, ← isClerk_eq]
  rw [exec_badFrame hhead, hrun, hsample, State.hostRequest, if_pos (paramCount_le_of_wellFormed h)]

/-- SUPV is not looked at for a clerk command (R182). -/
theorem runRequest_clerk {r : Request} {c : Instr} (h : clerkRow r = some c) (supv supv' : Bool) :
    runRequest supv r = runRequest supv' r := by
  cases r with
  | status | readAt _ _ | readNext | imprint _ | confirm _ _ _ | sell _ _ => rfl
  | _ => exact nomatch h

/-- Settles O12: the frame and the row are the same taking of the same request. -/
theorem supervisorFramesActAsTheirRows : Obligations.SupervisorFramesActAsTheirRows := by
  intro r supv c s h hrow
  rw [exec_requestFrame h]
  rcases hrow with hrow | hrow
  · rw [exec_supervisorRow hrow, clerkRow_none_of_supervisorRow hrow]
    rfl
  · rw [exec_clerkRow hrow supv, hrow]
    rfl

/-! ### SUPV -/

/-- Without SUPV every command but a clerk command is refused (R182). -/
theorem runRequest_without_key {r : Request} (h : clerkRow r = none) (s : State) :
    runRequest false r s = (s, .result .notSupervisor []) := by
  cases r with
  | status | readAt _ _ | readNext | imprint _ | confirm _ _ _ | sell _ _ => exact nomatch h
  | _ => rfl

/-- Settles O13. -/
theorem supervisorCommandsNeedTheKey : Obligations.SupervisorCommandsNeedTheKey := by
  intro r s hready h
  have hfits := paramCount_le_of_wellFormed h
  refine ⟨fun c hrow => ?_, fun hclerk => ?_⟩
  · rw [exec_supervisorRow hrow,
      hostRequest_refused hready hfits (runRequest_without_key (clerkRow_none_of_supervisorRow hrow) _)]
  · rw [exec_requestFrame h, hclerk]
    exact congrArg Host.Outcome.next (hostRequest_refused hready hfits (runRequest_without_key hclerk _))

/-! ### Admission -/

theorem whenActive_refused {s : State} (h : s.ctl.state ≠ .active) (run : State → State × Answer) :
    whenActive run s = refuse .wrongState s := if_neg h

theorem whenCommitted_refused {s : State} (h : s.ctl.state = .unconfigured) (run : State → State × Answer) :
    whenCommitted run s = refuse .wrongState s := if_pos h

theorem whenOpened_refused {s : State} (h : s.tariff.stagedState ≠ .opened) (run : State → State × Answer) :
    whenOpened run s = refuse .wrongState s := if_neg h

/-- A TARIFF_CLASS outside ACTIVE, or with no OPEN bank, is refused (R26, R28). -/
theorem opened_refused {s : State} (h : s.ctl.state ≠ .active ∨ s.tariff.stagedState ≠ .opened)
    (run : State → State × Answer) : whenActive (whenOpened run) s = refuse .wrongState s := by
  by_cases ha : s.ctl.state = .active
  · rw [whenActive_of_active ha, whenOpened_refused (h.resolve_left (Classical.not_not.2 ha))]
  · exact whenActive_refused ha _

/-- A TARIFF_CLASS of an ACTIVE station with an OPEN bank runs. -/
theorem opened_run {s : State} (h : ¬(s.ctl.state ≠ .active ∨ s.tariff.stagedState ≠ .opened))
    (run : State → State × Answer) : whenActive (whenOpened run) s = run s := by
  obtain ⟨ha, ho⟩ := not_or.1 h
  rw [whenActive_of_active (Classical.not_not.1 ha), whenOpened, if_pos (Classical.not_not.1 ho)]

/-- The region of a code (R185). -/
theorem regionOf_code (r : Region) : regionOf r.code.toNat = some r := by cases r <;> rfl

theorem regionOf_eq_none {n : Nat} (h : 6 < n) : regionOf n = none := List.getElem?_eq_none h

theorem exists_region {n : Nat} (h : n ≤ 6) : ∃ r : Region, r.code.toNat = n := by
  match n, h with
  | 0, _ => exact ⟨.journal, rfl⟩
  | 1, _ => exact ⟨.peers, rfl⟩
  | 2, _ => exact ⟨.stock, rfl⟩
  | 3, _ => exact ⟨.classes, rfl⟩
  | 4, _ => exact ⟨.outbound, rfl⟩
  | 5, _ => exact ⟨.image, rfl⟩
  | 6, _ => exact ⟨.config, rfl⟩
  | n + 7, h => exact absurd h (by omega)

theorem readRegion_wrongState {s : State} {r : Region} (h : s.ctl.state = .unconfigured ∧ r ≠ .config) (i : Nat) :
    readRegion r i s = refuse .wrongState s := if_pos h

theorem readRegion_notParked {s : State} {r : Region} (h : ¬(s.ctl.state = .unconfigured ∧ r ≠ .config))
    (hp : r = .image ∧ s.ctl.state ≠ .parked) (i : Nat) : readRegion r i s = refuse .notParked s := by
  rw [readRegion, if_neg h, if_pos hp]

theorem code_eq_six (r : Region) : r.code.toNat = 6 ↔ r = .config := by cases r <;> decide

theorem code_eq_five (r : Region) : r.code.toNat = 5 ↔ r = .image := by cases r <;> decide

/-- A READ_AT that is not admitted (R185). -/
theorem readAt_admissionFault {s : State} {region : Byte} {index : BitVec 16} {code : Code}
    (h : s.admissionFault (.readAt region index) = some code) : readAtRequest region index s = refuse code s := by
  simp only [State.admissionFault] at h
  split at h
  · rename_i h6
    obtain rfl := Option.some.inj h
    rw [readAtRequest, regionOf_eq_none h6]
  rename_i h6
  obtain ⟨r, hr⟩ := exists_region (Nat.le_of_not_lt h6)
  rw [readAtRequest, ← hr, regionOf_code]
  simp only [← hr, ne_eq, code_eq_six, code_eq_five] at h
  split at h
  · rename_i hu
    obtain rfl := Option.some.inj h
    exact readRegion_wrongState hu _
  rename_i hu
  split at h
  · rename_i hp
    obtain rfl := Option.some.inj h
    exact readRegion_notParked hu hp _
  · exact nomatch h

theorem readNext_admissionFault {s : State} {code : Code} (h : s.admissionFault .readNext = some code) :
    readNextRequest s = refuse code s := by
  simp only [State.admissionFault] at h
  split at h
  · rename_i hu
    obtain rfl := Option.some.inj h
    exact readRegion_wrongState hu _
  rename_i hu
  split at h
  · rename_i hp
    obtain rfl := Option.some.inj h
    exact readRegion_notParked hu hp _
  · exact nomatch h

/-- A CONFIRM that is not admitted (R57). -/
theorem confirm_admissionFault {s : State} {id index outcome : Byte} {code : Code}
    (h : s.admissionFault (.confirm id index outcome) = some code) : confirmRequest id index outcome s = refuse code s := by
  simp only [State.admissionFault] at h
  split at h
  · rename_i ho
    obtain rfl := Option.some.inj h
    have hnone : outcomeOf outcome = none := by rw [outcomeOf, if_neg ho.1, if_neg ho.2]
    rw [confirmRequest, hnone]
  rename_i ho
  obtain ⟨st, hst⟩ : ∃ st, outcomeOf outcome = some st := by
    by_cases h1 : outcome = 1
    · exact ⟨_, if_pos h1⟩
    · have h2 : outcome = 2 := Decidable.byContradiction fun h2 => ho ⟨h1, h2⟩
      exact ⟨.failed, by rw [h2]; rfl⟩
  simp only [confirmRequest, hst]
  split at h
  · rename_i hu
    obtain rfl := Option.some.inj h
    exact if_pos hu
  rename_i hu
  rw [if_neg hu]
  cases hr : s.reservation id.toNat with
  | none =>
    rw [hr] at h
    obtain rfl := Option.some.inj h
    rfl
  | some r =>
    rw [hr] at h
    dsimp only at h ⊢
    split at h
    · rename_i hlen
      obtain rfl := Option.some.inj h
      rw [List.getElem?_eq_none hlen]
    · exact nomatch h

/-- A CONSIGN that is not admitted (R72, R78). -/
theorem consign_admissionFault {s : State} {k d : Byte} {c : BitVec 16} {code : Code}
    (h : s.admissionFault (.consign k d c) = some code) : whenActive (consignRequest k d c) s = refuse code s := by
  simp only [State.admissionFault] at h
  split at h
  · rename_i ha
    obtain rfl := Option.some.inj h
    exact whenActive_refused ha _
  rename_i ha
  rw [whenActive_of_active (Classical.not_not.1 ha)]
  split at h
  · rename_i hbad
    obtain rfl := Option.some.inj h
    by_cases hk : 1 ≤ k.toNat ∧ k.toNat ≤ 15
    · rw [consignRequest, stationOf, dif_pos hk]
      refine if_pos ?_
      rcases hbad with h0 | h15 | hown | hc
      · omega
      · omega
      · refine .inl ?_
        obtain ⟨own, hown, hval⟩ := Option.map_eq_some_iff.1 hown
        rw [State.ownNumber, hown]
        exact beq_iff_eq.2 hval
      · exact .inr hc
    · rw [consignRequest, stationOf, dif_neg hk]
  · exact nomatch h

/-- A band part that is not admitted (R31). -/
theorem bands_admissionFault {s : State} {t f : Byte} {bs : List BandFields} {code : Code}
    (h : s.admissionFault (.tariffBands t f bs) = some code) :
    whenActive (whenOpened (tariffBandsRequest t f bs)) s = refuse code s := by
  simp only [State.admissionFault] at h
  split at h
  · rename_i ho
    obtain rfl := Option.some.inj h
    exact opened_refused ho _
  rename_i ho
  rw [opened_run ho]
  split at h
  · rename_i hnone
    obtain rfl := Option.some.inj h
    rw [tariffBandsRequest, hnone]
  · rename_i a ha
    split at h
    · rename_i hbad
      obtain rfl := Option.some.inj h
      simp only [tariffBandsRequest, ha]
      refine if_neg ?_
      simp only [bandsFit, Bool.and_eq_true, beq_iff_eq, decide_eq_true_eq]
      omega
    · exact nomatch h

/-- The items of one value each, 0 to 13 (R187). -/
theorem lt_fourteen_cases {n : Nat} (h : n < 14) :
    n = 0 ∨ n = 1 ∨ n = 2 ∨ n = 3 ∨ n = 4 ∨ n = 5 ∨ n = 6 ∨ n = 7 ∨ n = 8 ∨ n = 9 ∨ n = 10 ∨ n = 11 ∨ n = 12 ∨ n = 13 := by
  omega

/-- A CONFIG_SET is admitted while UNCONFIGURED, for the items and indexes that R187 lists. -/
theorem configItem_isNone (c : ConfigStore) (item index : Nat) :
    (c.item item index).isNone = true ↔ 14 < item ∨ (if item = 14 then 15 else 0) < index := by
  rw [ConfigStore.item]
  split
  · rename_i hf
    simp only [Option.isNone_some, Bool.false_eq_true, false_iff, if_pos hf.1]
    omega
  rename_i hf
  split
  · simp only [Option.isNone_none, true_iff]
    split <;> omega
  rename_i hzero
  obtain rfl : index = 0 := Classical.not_not.1 hzero
  by_cases hitem : item ≤ 13
  · obtain rfl | rfl | rfl | rfl | rfl | rfl | rfl | rfl | rfl | rfl | rfl | rfl | rfl | rfl :=
      lt_fourteen_cases (Nat.lt_succ_of_le hitem)
    all_goals simp
  · obtain ⟨k, rfl⟩ : ∃ k, item = k + 15 := Nat.exists_eq_add_of_le' (by omega)
    simp

/-- A request that fails an admission test is refused by its block with the code of the test (R17, R26, R28, R31, R50, R57,
R72, R94, R163, R175, R185, R187). -/
theorem runRequest_admissionFault {s : State} {r : Request} {code : Code} (h : s.admissionFault r = some code) :
    runRequest true r s = refuse code s := by
  cases r with
  | status => exact nomatch h
  | readAt region index => exact readAt_admissionFault h
  | readNext => exact readNext_admissionFault h
  | confirm id index outcome => exact confirm_admissionFault h
  | consign k d c => exact consign_admissionFault h
  | tariffBands t f bs => exact bands_admissionFault h
  | imprint items =>
    simp only [State.admissionFault] at h
    split at h
    · obtain rfl := Option.some.inj h
      exact if_pos (by omega)
    · exact nomatch h
  | sell d c =>
    simp only [State.admissionFault] at h
    split at h
    · rename_i ha
      obtain rfl := Option.some.inj h
      exact whenActive_refused ha _
    rename_i ha
    split at h
    · obtain rfl := Option.some.inj h
      exact (whenActive_of_active (Classical.not_not.1 ha) _).trans (if_pos (by omega))
    · exact nomatch h
  | stockIn d c =>
    simp only [State.admissionFault] at h
    split at h
    · rename_i ha
      obtain rfl := Option.some.inj h
      exact whenActive_refused ha _
    rename_i ha
    split at h
    · rename_i hc
      obtain rfl := Option.some.inj h
      exact (whenActive_of_active (Classical.not_not.1 ha) _).trans (if_pos hc)
    · exact nomatch h
  | count d p | tariffOpen =>
    simp only [State.admissionFault] at h
    split at h
    · rename_i ha
      obtain rfl := Option.some.inj h
      exact whenActive_refused ha _
    · exact nomatch h
  | voucher b k n a c =>
    simp only [State.admissionFault] at h
    split at h
    · rename_i ha
      obtain rfl := Option.some.inj h
      exact if_pos ha
    rename_i ha
    split at h
    · rename_i hcap
      obtain rfl := Option.some.inj h
      exact (if_neg ha).trans (if_pos hcap)
    · exact nomatch h
  | tariffSurcharge t vs =>
    simp only [State.admissionFault] at h
    split at h
    · rename_i ho
      obtain rfl := Option.some.inj h
      exact opened_refused ho _
    rename_i ho
    split at h
    · rename_i ht
      obtain rfl := Option.some.inj h
      exact (opened_run ho _).trans (if_neg ht)
    · exact nomatch h
  | tariffHead t r sv bc fs =>
    simp only [State.admissionFault] at h
    split at h
    · rename_i ho
      obtain rfl := Option.some.inj h
      exact opened_refused ho _
    rename_i ho
    split at h
    · rename_i ht
      obtain rfl := Option.some.inj h
      exact (opened_run ho _).trans (dif_neg (by omega))
    · exact nomatch h
  | tariffOther t kind body =>
    simp only [State.admissionFault] at h
    split at h
    · rename_i ho
      obtain rfl := Option.some.inj h
      exact opened_refused ho _
    · rename_i ho
      obtain rfl := Option.some.inj h
      exact opened_run ho _
  | tariffClose g d =>
    simp only [State.admissionFault] at h
    split at h
    · rename_i ho
      obtain rfl := Option.some.inj h
      by_cases ha : s.ctl.state = .active
      · exact (whenActive_of_active ha _).trans (if_pos (ho.resolve_left (Classical.not_not.2 ha)))
      · exact whenActive_refused ha _
    · exact nomatch h
  | auditClose _ | park | resume =>
    simp only [State.admissionFault] at h
    split at h
    · rename_i hu
      obtain rfl := Option.some.inj h
      exact whenCommitted_refused hu _
    · exact nomatch h
  | setDay d sec =>
    simp only [State.admissionFault] at h
    simp only [runRequest, supervised_true, setDayRequest]
    split at h
    · rename_i hu
      obtain rfl := Option.some.inj h
      exact if_pos hu
    rename_i hu
    rw [if_neg hu]
    split at h
    · rename_i hsec
      obtain rfl := Option.some.inj h
      exact if_pos hsec
    rename_i hsec
    rw [if_neg hsec]
    split at h
    · rename_i hlost
      obtain rfl := Option.some.inj h
      exact if_pos hlost
    rename_i hlost
    rw [if_neg hlost]
    split at h
    · rename_i hback
      obtain rfl := Option.some.inj h
      exact if_pos hback
    · exact nomatch h
  | configSet i n v =>
    simp only [State.admissionFault] at h
    simp only [runRequest, supervised_true, configSetRequest]
    split at h
    · rename_i hu
      obtain rfl := Option.some.inj h
      exact if_pos hu
    rename_i hu
    rw [if_neg hu]
    by_cases hitem : 14 < i.toNat ∨ (if i.toNat = 14 then 15 else 0) < n.toNat
    · rw [if_pos hitem] at h
      obtain rfl := Option.some.inj h
      exact if_pos ((configItem_isNone _ _ _).2 hitem)
    · rw [if_neg hitem] at h
      exact nomatch h
  | configCommit =>
    simp only [State.admissionFault] at h
    split at h
    · rename_i hu
      obtain rfl := Option.some.inj h
      exact if_pos hu
    · exact nomatch h

/-- Settles O9. -/
theorem admissionRefusalsChangeNothing : Obligations.AdmissionRefusalsChangeNothing := by
  intro r c code s hready hr hfault
  have hfits := paramCount_le_of_wellFormed hr
  have hrefused (supv : Option Bool) : s.hostRequest r supv (runRequest true r) =
      { s with host := s.host.took r supv (.result code []) } := by
    refine hostRequest_refused hready hfits (runRequest_admissionFault (s := s.accepting r supv) ?_)
    cases r <;> exact hfault
  refine ⟨fun hrow => ?_, fun hrow => ?_, ?_⟩
  · rw [exec_supervisorRow hrow, hrefused]
  · rw [exec_clerkRow hrow true, hrefused]
  · rw [exec_requestFrame hr, hrefused]

end Sys2Proof.Machine
end

section
/-! PROOFS. What the host port and the line lay out as bytes: branch frames, responses, STATUS and the region records (R101,
R178 to R185, R189, R191, R192). -/

namespace Sys2Proof.Machine

/-! ### Branch frames -/

theorem kind_pos (p : Payload) : 1 ≤ p.kind := by
  cases p with
  | reply kind => cases kind <;> simp [Payload.kind]
  | _ => exact Nat.succ_le_succ (Nat.zero_le _)

theorem kind_le (p : Payload) : p.kind ≤ 12 := by
  cases p with
  | reply kind => cases kind <;> simp [Payload.kind]
  | _ => simp [Payload.kind]

/-- An identifier is the kind code times 16 plus the sender (R101). -/
theorem identifier_toNat (p : Payload) (k : Station) : (p.identifier k).toNat = 16 * p.kind + k.val := by
  have h1 := kind_le p
  have h2 := k.property
  rw [Payload.identifier, BitVec.toNat_ofNat, Nat.mod_eq_of_lt (by omega)]

/-- The first byte of a ROLL gives the state and the can-give flag, its second the standing (R191). -/
theorem announced_of_roll {st : StationState} (h : st ≠ .unconfigured) (sd : Standing) (g : Bool) :
    announcedState ((BitVec.ofNat 8 (st.code.toNat + if g then 128 else 0)).toNat % 128) = some st ∧
    announcedStanding sd.code.toNat = some sd ∧
    (BitVec.ofNat 8 (st.code.toNat + if g then 128 else 0)).getLsbD 7 = g := by
  cases st with
  | unconfigured => exact absurd rfl h
  | active | parking | parked => cases sd <;> cases g <;> decide

/-- The kind byte of a stock GIVE has its top bit set, and the denomination in its low bits (R191). -/
theorem stockKindByte (i : BitVec 4) :
    (BitVec.ofNat 8 (128 + i.toNat)).getLsbD 7 = true ∧ (BitVec.ofNat 8 (128 + i.toNat)).setWidth 4 = i := by
  revert i
  decide

/-- The data of a frame reads back as its content (R191). -/
theorem parsePayload_data {p : Payload} (h : ∀ c, p = .roll c → c.state ≠ .unconfigured) :
    parsePayload p.kind p.data = some p := by
  have h16 (n : BitVec 16) := ofNat_beBytes 2 (by decide) n
  have h32 (n : BitVec 32) := ofNat_beBytes 4 (by decide) n
  cases p with
  | give d n body =>
    cases body with
    | credit a =>
      show some (Payload.give d (BitVec.ofNat 16 (natOfBytes (beBytes 2 n.toNat)))
        (.credit (BitVec.ofNat 32 (natOfBytes (beBytes 4 a.toNat))))) = _
      rw [h16, h32]
    | stock i c f =>
      obtain ⟨htop, hlow⟩ := stockKindByte i
      show (if (BitVec.ofNat 8 (128 + i.toNat)).getLsbD 7 then
          some (Payload.give d (BitVec.ofNat 16 (natOfBytes (beBytes 2 n.toNat)))
            (.stock ((BitVec.ofNat 8 (128 + i.toNat)).setWidth 4) (BitVec.ofNat 16 (natOfBytes (beBytes 2 c.toNat)))
              (BitVec.ofNat 16 (natOfBytes (beBytes 2 f.toNat))))) else _) = _
      rw [if_pos htop, hlow, h16, h16, h16]
  | reply kind d n =>
    cases kind <;> exact congrArg (fun m => some (Payload.reply _ d m)) (h16 n)
  | query d n => exact congrArg (fun m => some (Payload.query d m)) (h16 n)
  | take d a => exact congrArg (fun m => some (Payload.take d m)) (h32 a)
  | noneLeft d => rfl
  | offer d a => exact congrArg (fun m => some (Payload.offer d m)) (h32 a)
  | call n => exact congrArg (fun m => some (Payload.call m)) (h32 n)
  | roll c =>
    obtain ⟨hstate, hstanding, hgive⟩ := announced_of_roll (h c rfl) c.standing c.canGive
    simp only [Payload.kind, Payload.data, parsePayload, beBytes, List.cons_append, List.nil_append, hstate, hstanding,
      hgive]
    exact congrArg (fun m => some (Payload.roll { c with spare := m })) (h32 c.spare)

/-- The data of a frame is at most eight bytes (R191). -/
theorem data_length_le (p : Payload) : p.data.length ≤ 8 := by
  cases p with
  | give d n body => cases body <;> simp [Payload.data]
  | _ => simp [Payload.data]

theorem stationOf_val (k : Station) : stationOf k.val = some k := dif_pos k.property

/-- Settles O11: the identifier gives the sender and the kind, and the data the content. -/
theorem branchFramesReadBack : Obligations.BranchFramesReadBack := by
  intro p sender hroll
  refine ⟨?_, data_length_le p, identifier_toNat p sender⟩
  have hsender : (16 * p.kind + sender.val) % 16 = sender.val := by have := sender.property; omega
  have hkind : (16 * p.kind + sender.val) / 16 = p.kind := by have := sender.property; omega
  rw [parseFrame, identifier_toNat, hsender, hkind, stationOf_val, parsePayload_data hroll]

/-! ### Codes -/

theorem stationState_code (x : StationState) :
    x.code = BitVec.ofNat 8 (codeIn [StationState.unconfigured, .active, .parking, .parked] x) := by cases x <;> rfl

theorem standing_code (x : Standing) :
    x.code = BitVec.ofNat 8 (codeIn [Standing.empty, .low, .normal, .surplus] x) := by cases x <;> rfl

theorem stagedState_code (x : StagedState) :
    x.code = BitVec.ofNat 8 (codeIn [StagedState.empty, .opened, .ready] x) := by cases x <;> rfl

theorem inspection_code (x : Inspection) :
    x.code = BitVec.ofNat 8 (codeIn [Inspection.current, .due, .lapsed] x) := by cases x <;> rfl

theorem inspection_number (x : Inspection) : x.code.toNat = codeIn [Inspection.current, .due, .lapsed] x := by
  cases x <;> rfl

theorem presence_code (x : Presence) :
    x.code = BitVec.ofNat 8 (codeIn [Presence.unheard, .present, .absent, .self] x) := by cases x <;> rfl

theorem entryKind_code (x : EntryKind) :
    x.code = BitVec.ofNat 8 (codeIn [EntryKind.voucher, .giveCredit, .receiveCredit, .giveStock, .receiveStock, .settle,
      .restore, .stockIn, .countAdjust] x) := by cases x <;> rfl

theorem region_code (r : Region) :
    r.code.toNat = codeIn [Region.journal, .peers, .stock, .classes, .outbound, .image, .config] r := by cases r <;> rfl

theorem confirmMode_number (x : ConfirmMode) :
    x.number = codeIn [ConfirmMode.immediate, .window, .extended] x := by cases x <;> rfl

theorem flagByte_eq (b : Bool) : flagByte b = BitVec.ofNat 8 b.toNat := by cases b <;> rfl

theorem byte_eq_ofNat (b : Byte) : b = BitVec.ofNat 8 b.toNat := by rw [BitVec.ofNat_toNat, BitVec.setWidth_eq]

/-! ### Responses -/

/-- Forming the response of a result that changes nothing when it is reported (R179). -/
theorem exec_responseFormed {s : State} {a : Answer} (hon : s.power = .on) (ha : s.host.answer = some a) :
    exec .responseFormed s = .next ((s.afterReport a).onHost fun h =>
      { h with request := [], response := some (s.formedFrame a), rdy := true, answer := none }) := by
  refine (congrArg Host.Outcome.next (if_pos (powered_of_on hon))).trans ?_
  rw [State.formResponse, ha]

/-- What a fetch clocks out after its 0x00 byte, when it clocks at least the whole of it (R180). -/
theorem clockedOut_fetch {s : State} {out : List Byte} (h : s.fetchOutput = out) (n : Nat) :
    s.clockedOut (0 :: List.replicate (out.length + n) 0) = out ++ List.replicate n 0xFF := by
  rw [State.clockedOut, List.headD_cons, if_pos rfl, State.fetchBytes, h, List.length_cons, List.length_replicate, Nat.add_sub_cancel,
    Nat.add_sub_cancel_left, List.take_of_length_le (Nat.le_of_eq (by rw [List.length_append, List.length_replicate]))]

/-- Settles O5. -/
theorem responseIsFormedAndFetched : Obligations.ResponseIsFormedAndFetched := by
  refine ⟨?_, ?_, ?_, ?_, rfl, rfl⟩
  · rintro a code data s hon ha (rfl | ⟨day, count, inspection, rfl, rfl, rfl⟩)
    · exact exec_responseFormed hon ha
    · rw [exec_responseFormed hon ha, ← inspection_code]
      rfl
  · exact fun code overrun data => ⟨byteSum_withCheck _, _, rfl⟩
  · refine fun s n => ⟨rfl, fun h => clockedOut_fetch (out := [0x01]) ?_ n, fun f hrdy hresp => clockedOut_fetch ?_ n⟩
    · rcases h with h | h
      · rw [State.fetchOutput, h]; rfl
      · rw [State.fetchOutput, h]; exact ite_self _
    · rw [State.fetchOutput, hrdy, hresp]; rfl
  · intro s first more hfirst
    rw [State.clockedOut, List.headD_cons, if_neg hfirst, requestOutput, List.map_const', List.length_cons]

/-! ### STATUS -/

/-- The alert set is the number whose bits are the eleven alerts (R189). -/
theorem alertSet_eq (s : State) :
    s.alertSet = bitsNumber [s.host.alerts.lowCredit, s.host.alerts.stranded, s.host.alerts.reservationExpired,
      s.host.alerts.journalNearFull, s.host.alerts.inspectionDue, s.inspection == .lapsed, s.time.timeLost,
      s.host.alerts.tariffSwitched, s.host.alerts.peerTariffNewer, s.host.alerts.lineAlone,
      s.host.alerts.stationClash] := rfl

/-- The STATUS data are its fields in order (R184, R189). -/
theorem statusData_eq (s : State) : s.statusData = fieldBytes s.statusFields := by
  have hflags : s.statusFlags = BitVec.ofNat 8 (s.acct.limit.toNat + 2 * (s.line.state == .alone).toNat +
      4 * s.time.timeLost.toNat + 8 * codeIn [Inspection.current, .due, .lapsed] s.inspection) := by
    rw [State.statusFlags, inspection_number]
  delta State.statusData
  rw [State.reportedStagedGeneration, alertSet_eq, hflags, stationNumber_eq, stationState_code, standing_code,
    stagedState_code]
  simp only [State.statusFields, fieldBytes_cons, fieldBytes_nil, beBytes_one, List.append_assoc, List.cons_append,
    List.nil_append, List.append_nil]

theorem fieldBytes_length (fields : List (Nat × Nat)) : (fieldBytes fields).length = (fields.map (·.1)).sum := by
  induction fields with
  | nil => rfl
  | cons f fields ih => rw [fieldBytes_cons, List.length_append, beBytes_length, ih, List.map_cons, List.sum_cons]

/-- Settles O6. -/
theorem statusReportsAndClearsAlerts : Obligations.StatusReportsAndClearsAlerts := by
  intro s
  refine ⟨fun hready => ?_, fun hon ha => ?_, ?_, ?_, ?_⟩
  · exact congrArg Host.Outcome.next (hostRequest_refused hready (by decide) rfl)
  · exact exec_responseFormed hon ha
  · rw [statusData_eq, fieldBytes_length]
    simp only [State.statusFields, List.map_cons, List.map_nil, List.sum_cons, List.sum_nil, Nat.reduceAdd]
  · rw [statusData_eq]
    exact laysOut_fieldBytes _
  · simp only [State.alertOutput, allAlerts, List.any_cons, List.any_nil, Bool.or_false, Bool.or_eq_true]
    simp only [State.alertPending, AlertStore.get, beq_iff_eq]

end Sys2Proof.Machine
end

section
/-! PROOFS. The regions: which records they have, and the fields of each (R185, R187, R192). -/

namespace Sys2Proof.Machine

/-! ### Records as fields -/

theorem optByte_eq (o : Option Nat) : optByte o = BitVec.ofNat 8 (o.getD 0) := rfl

theorem entryRecord_eq (e : Entry) : entryRecord e = fieldBytes (entryFields e) := by
  simp only [entryRecord, entryFields, entryPresence, optByte_eq, entryKind_code, fieldBytes_cons, fieldBytes_nil,
    beBytes_one, List.append_assoc, List.cons_append, List.nil_append, List.append_nil]

theorem rollBytes_eq (r : RollContent) : rollBytes r = fieldBytes (rollFields r) := by
  simp only [rollBytes, rollFields, stationState_code, standing_code, flagByte_eq, fieldBytes_cons, fieldBytes_nil,
    beBytes_one, ← byte_eq_ofNat, List.cons_append, List.nil_append]

/-- A PEERS record: its first five bytes, and the nine of its roll content or free ones. -/
theorem peerRecord_eq (free : List Byte) (k : Station) (e : PeerEntry) :
    peerRecord free k e = fieldBytes (peerFields k e) ++ (e.roll.map rollBytes).getD free := by
  simp only [peerRecord, peerFields, presence_code, flagByte_eq, fieldBytes_cons, fieldBytes_nil, beBytes_one,
    List.append_assoc, List.cons_append, List.nil_append]
  cases e.roll <;> rfl

theorem stockRecord_eq (index face : Nat) (d : Denom) (openStock : Nat) :
    stockRecord index face d openStock = fieldBytes (stockFields index face d openStock) := by
  simp only [stockRecord, stockFields, fieldBytes_cons, fieldBytes_nil, List.append_assoc, List.append_nil]

theorem classRecordBytes_eq (cls : Nat) (t : ClassTotal) :
    classRecordBytes cls t = fieldBytes [(1, cls), (4, t.count), (6, t.value)] := by
  simp only [classRecordBytes, fieldBytes_cons, fieldBytes_nil, List.append_assoc, List.append_nil]

theorem outboundRecord_eq (r : OutRecord) : outboundRecord r = fieldBytes (outboundFields r) := by
  obtain ⟨k, serial, body, state, sends, wait⟩ := r
  cases state <;> cases body <;>
    simp only [outboundRecord, outboundFields, fieldBytes_cons, fieldBytes_nil, beBytes_one, List.append_assoc,
      List.cons_append, List.nil_append, List.append_nil] <;> rfl

theorem imageRecordBytes_eq (x : ImageRecord) : imageRecordBytes x = fieldBytes (imageFields x) := by
  cases x with
  | header | registers =>
    simp only [imageRecordBytes, imageFields, fieldBytes_cons, fieldBytes_nil, List.append_assoc, List.append_nil]
  | denomination i face d o => exact stockRecord_eq i face d o
  | outbound r => exact outboundRecord_eq r

/-- Laid-out fields followed by other bytes. -/
theorem take_fieldBytes (fields : List (Nat × Nat)) (rest : List Byte) {n : Nat} (h : (fields.map (·.1)).sum = n) :
    (fieldBytes fields ++ rest).take n = fieldBytes fields := List.take_left' ((fieldBytes_length fields).trans h)

theorem drop_fieldBytes (fields : List (Nat × Nat)) (rest : List Byte) {n : Nat} (h : (fields.map (·.1)).sum = n) :
    (fieldBytes fields ++ rest).drop n = rest := List.drop_left' ((fieldBytes_length fields).trans h)

/-! ### Configuration items -/

theorem itemCode_eq (i : Nat) : (if i < 14 then i else 14) = itemCode i := by rw [itemCode]; split <;> omega

theorem itemIndex_eq (i : Nat) : (if i < 14 then 0 else i - 14) = itemIndex i := by rw [itemIndex]; split <;> omega

/-- The item at a position of region CONFIG, by the list of R187. -/
theorem item_listed (c : ConfigStore) (i : Nat) :
    c.item (itemCode i) (itemIndex i) = c.listed[i]?.map fun v => (v.1, v.2.map (BitVec.ofNat 64)) := by
  by_cases hi : i < 14
  · have hkey : BitVec.ofNat 64 c.key.toNat = c.key := by rw [BitVec.ofNat_toNat, BitVec.setWidth_eq]
    have hcode : itemCode i = i := by rw [itemCode]; omega
    have hindex : itemIndex i = 0 := by rw [itemIndex]; omega
    rw [hcode, hindex]
    obtain rfl | rfl | rfl | rfl | rfl | rfl | rfl | rfl | rfl | rfl | rfl | rfl | rfl | rfl :=
      lt_fourteen_cases hi
    all_goals simp [ConfigStore.item, ConfigStore.listed, hkey, confirmMode_number]
  · have hcode : itemCode i = 14 := by rw [itemCode]; omega
    have hlisted : c.listed[i]? = (c.faces.toList.map fun f => (f.isSome, f))[i - 14]? :=
      List.getElem?_append_right (Nat.le_of_not_lt hi)
    rw [hcode, hlisted, List.getElem?_map, Vector.getElem?_toList, itemIndex, ConfigStore.item]
    by_cases hf : i - 14 < 16
    · rw [dif_pos ⟨rfl, hf⟩, Vector.getElem?_eq_getElem hf]
      rfl
    · rw [dif_neg fun h => hf h.2, if_pos (by omega), Vector.getElem?_eq_none (Nat.le_of_not_lt hf)]
      rfl

/-- A CONFIG record: item, index and set flag, then the value or free bytes (R192). -/
theorem configBytes_eq (free : List Byte) (item index : Nat) (isSet : Bool) (value : Option (BitVec 64)) :
    configBytes free item index isSet value =
      fieldBytes [(1, item), (1, index), (1, isSet.toNat)] ++ (value.map fun v => beBytes 8 v.toNat).getD free := by
  simp only [configBytes, flagByte_eq, fieldBytes_cons, fieldBytes_nil, beBytes_one, List.cons_append,
    List.nil_append]
  cases value <;> rfl

/-! ### The records of a region -/

theorem recordAt_isSome (s : State) (r : Region) (i : Nat) : (s.recordAt r i).isSome = true ↔ i < s.recordCount r := by
  cases r with
  | journal | outbound | image => simp [State.recordAt, State.recordCount]
  | peers | classes =>
    rw [State.recordAt, State.recordCount]
    split <;> simp_all
  | stock =>
    rw [State.recordAt, State.recordCount, Option.isSome_map, State.denomAt, Nat.lt_min]
    split
    · split <;> simp_all
    · simp_all
  | config =>
    rw [State.recordAt, State.recordCount, Option.isSome_map, itemCode_eq, itemIndex_eq, item_listed, Option.isSome_map]
    simp [ConfigStore.listed]

/-- A record of a region that holds one. -/
theorem exists_of_map_eq_some {α : Type} {o : Option α} {f : α → List Byte} {bytes : List Byte} (h : o.map f = some bytes) :
    ∃ a, o = some a ∧ bytes = f a := by
  obtain ⟨a, ha, hf⟩ := Option.map_eq_some_iff.1 h
  exact ⟨a, ha, hf.symm⟩

theorem recordAt_peers {s : State} {k : Station} {i : Nat} (hk : k.val = i + 1) :
    s.recordAt .peers i = some (peerRecord (s.freeBytes 9) k (s.peer k)) := by
  have hi : i < 15 := by have := k.property.2; omega
  obtain ⟨n, hn⟩ := k
  subst hk
  exact dif_pos hi

theorem recordAt_stock {s : State} {d : Fin 16} {bytes : List Byte} (h : s.recordAt .stock d.val = some bytes) :
    bytes = stockRecord d.val (s.face d) s.stock[d] (s.openStock d) := by
  obtain ⟨e, he, rfl⟩ := exists_of_map_eq_some h
  obtain rfl : e = d := by
    rw [State.denomAt, dif_pos d.isLt] at he
    split at he
    · exact (Option.some.inj he).symm
    · exact nomatch he
  rfl

theorem recordAt_classes (s : State) (c : Fin 8) :
    s.recordAt .classes c.val = some (classRecordBytes c.val s.resv.totals[c]) := dif_pos c.isLt

/-- A number of more than eight bytes reads as its low eight. -/
theorem laysOut_word (n : Nat) : laysOut (beBytes 8 (BitVec.ofNat 64 n).toNat) [(8, n)] := by
  have h := laysOut_fieldBytes [(8, (BitVec.ofNat 64 n).toNat)]
  rw [fieldBytes_cons, fieldBytes_nil, List.append_nil] at h
  rw [laysOut] at h ⊢
  rw [List.map_cons, List.map_nil] at h ⊢
  rw [h, List.map_cons, List.map_nil, List.map_cons, List.map_nil, BitVec.toNat_ofNat, 
    Nat.mod_mod_of_dvd n (show 256 ^ 8 ∣ 2 ^ 64 by decide)]

/-- The fields of a CONFIG record (R187, R192). -/
theorem config_record {s : State} {i : Nat} {bytes : List Byte} (h : s.recordAt .config i = some bytes) :
    ∃ isSet value, s.ctl.config.listed[i]? = some (isSet, value) ∧ bytes.length = 11 ∧
      laysOut (bytes.take 3) [(1, itemCode i), (1, itemIndex i), (1, isSet.toNat)] ∧
      ∀ n, value = some n → laysOut (bytes.drop 3) [(8, n)] := by
  obtain ⟨v, hv, rfl⟩ := exists_of_map_eq_some h
  rw [itemCode_eq, itemIndex_eq] at hv ⊢
  rw [item_listed] at hv
  obtain ⟨⟨isSet, value⟩, hlisted, rfl⟩ := Option.map_eq_some_iff.1 hv
  refine ⟨isSet, value, hlisted, ?_, ?_, ?_⟩
  · rw [configBytes_eq, List.length_append, fieldBytes_length]
    cases value <;> simp [State.freeBytes]
  · rw [configBytes_eq, take_fieldBytes _ _ (by rfl)]
    exact laysOut_fieldBytes _
  · rintro n rfl
    rw [configBytes_eq, drop_fieldBytes _ _ (by rfl)]
    exact laysOut_word n

/-! ### Reading -/

/-- A read of a region that may be read, at an index (R185). -/
theorem readRegion_record {s : State} {r : Region} {i : Nat} {bytes : List Byte}
    (hcom : s.ctl.state = .unconfigured → r = .config) (hparked : r = .image → s.ctl.state = .parked)
    (h : s.recordAt r i = some bytes) :
    readRegion r i s = ({ s with
        host := { s.host with cursorRegion := r, cursorIndex := i + 1 }, freeDraws := s.freeDraws + 1 },
      .result .ok (r.code :: beBytes 2 i ++ bytes)) := by
  rw [readRegion, if_neg fun hn => hn.2 (hcom hn.1), if_neg fun hn => hn.2 (hparked hn.1), h]
  rfl

theorem readRegion_end {s : State} {r : Region} {i : Nat} (hcom : s.ctl.state = .unconfigured → r = .config)
    (hparked : r = .image → s.ctl.state = .parked) (h : s.recordAt r i = none) :
    readRegion r i s = (s, .result .endOfRegion []) := by
  rw [readRegion, if_neg fun hn => hn.2 (hcom hn.1), if_neg fun hn => hn.2 (hparked hn.1), h]
  rfl

/-- Taking a request moves no record. -/
theorem accepting_recordAt (s : State) (q : Request) (supv : Option Bool) (r : Region) (i : Nat) :
    (s.accepting q supv).recordAt r i = s.recordAt r i := by cases r <;> rfl

theorem readAtRequest_code (r : Region) (index : BitVec 16) (s : State) :
    readAtRequest r.code index s = readRegion r index.toNat s := by rw [readAtRequest, regionOf_code]

theorem readAt_fits (r : Region) (index : BitVec 16) : (Request.readAt r.code index).paramCount ≤ 60 :=
  show 3 ≤ 60 by decide

/-- Settles O7. -/
theorem readsAnswerTheRecordOrEnd : Obligations.ReadsAnswerTheRecordOrEnd := by
  refine ⟨fun r index s hready hcom hparked => ⟨fun bytes h => ⟨?_, fun hr hi => ?_⟩, fun h => ⟨?_, fun hr hi => ?_⟩⟩,
    fun s i => ⟨fun r => recordAt_isSome s r i, region_code, fun bytes h => ?_, fun k bytes hk h => ?_,
      fun d bytes hd h => ?_, fun c bytes hc h => ?_, fun bytes h => ?_, fun bytes h => ?_, fun bytes h => config_record h⟩⟩
  · refine congrArg Host.Outcome.next ((hostRequest_taken hready (readAt_fits r index)
      ((readAtRequest_code r index _).trans
        (readRegion_record hcom hparked ((accepting_recordAt _ _ _ _ _).trans h)))).trans rfl)
  · subst hr
    rw [← hi] at h ⊢
    exact congrArg Host.Outcome.next ((hostRequest_taken (r := .readNext) (supv := none) hready (by decide)
      (readRegion_record (s := s.accepting .readNext none) hcom hparked
        ((accepting_recordAt _ _ _ _ _).trans h))).trans rfl)
  · refine congrArg Host.Outcome.next (hostRequest_refused hready (readAt_fits r index) ?_)
    rw [readAtRequest_code]
    exact readRegion_end hcom hparked ((accepting_recordAt _ _ _ _ _).trans h)
  · subst hr
    refine congrArg Host.Outcome.next (hostRequest_refused hready (by decide) ?_)
    exact readRegion_end (i := s.host.cursorIndex) hcom hparked ((accepting_recordAt _ _ _ _ _).trans (hi ▸ h))
  · obtain ⟨e, he, rfl⟩ := exists_of_map_eq_some h
    exact ⟨e, he, entryRecord_eq e ▸ laysOut_fieldBytes _⟩
  · rw [recordAt_peers hk] at h
    obtain rfl := Option.some.inj h
    refine ⟨?_, ?_, fun c hc => ?_⟩
    · rw [peerRecord_eq, List.length_append, fieldBytes_length]
      cases (s.peer k).roll <;> simp [peerFields, State.freeBytes, rollBytes]
    · rw [peerRecord_eq, take_fieldBytes _ _ (by rfl)]
      exact laysOut_fieldBytes _
    · rw [peerRecord_eq, drop_fieldBytes _ _ (by rfl), hc]
      have hroll : ((some c).map rollBytes).getD (s.freeBytes 9) = fieldBytes (rollFields c) := rollBytes_eq c
      rw [hroll]
      exact laysOut_fieldBytes _
  · subst hd
    rw [recordAt_stock h, stockRecord_eq]
    exact laysOut_fieldBytes _
  · subst hc
    rw [recordAt_classes] at h
    obtain rfl := Option.some.inj h
    rw [classRecordBytes_eq]
    exact laysOut_fieldBytes _
  · obtain ⟨r, hr, rfl⟩ := exists_of_map_eq_some h
    exact ⟨r, hr, outboundRecord_eq r ▸ laysOut_fieldBytes _⟩
  · obtain ⟨x, hx, rfl⟩ := exists_of_map_eq_some h
    exact ⟨x, hx, imageRecordBytes_eq x ▸ laysOut_fieldBytes _⟩

end Sys2Proof.Machine
end

section
/-! PROOFS. The account unit and the tariff store's commands (R12 to R20, R26 to R34). -/

namespace Sys2Proof.Machine

/-! ### Taken requests -/

/-- A supervisor command with SUPV, taken: its block's next state with its answer. -/
theorem exec_supervisor (r : Request) {s t : State} {c : Instr} {a : Answer} (hrow : supervisorRow true r = some c)
    (hready : s.ready) (hrun : runRequest true r (s.accepting r (some true)) = (t, a))
    (hfits : r.paramCount ≤ 60 := by exact Nat.le_of_ble_eq_true rfl) :
    exec c s = .next { t with host := { t.host with answer := some a } } := by
  rw [exec_supervisorRow hrow, hostRequest_taken hready hfits hrun]

/-- A clerk command, taken: its block's next state with its answer. -/
theorem exec_clerk (r : Request) {s t : State} {c : Instr} {a : Answer} (hrow : clerkRow r = some c)
    (hready : s.ready) (hrun : runRequest true r (s.accepting r none) = (t, a))
    (hfits : r.paramCount ≤ 60 := by exact Nat.le_of_ble_eq_true rfl) :
    exec c s = .next { t with host := { t.host with answer := some a } } := by
  rw [exec_clerkRow hrow true, hostRequest_taken hready hfits hrun]

/-! ### Standing -/

/-- Settles O14: the bands of R12 in order, and the equation of setCredit. -/
theorem standingFollowsCredit : Obligations.StandingFollowsCredit := by
  intro s hlh
  have hstanding : s.standing = standingOf s.ctl.config.low.value s.ctl.config.high.value s.acct.credit := rfl
  rw [hstanding, standingOf]
  refine ⟨fun h => if_pos h, fun h0 hl => ?_, fun h0 hl hh => ?_, fun hh => ?_, setCredit_eq s⟩
  · rw [if_neg (Nat.ne_of_gt h0), if_pos hl]
  · rw [if_neg (Nat.ne_of_gt h0), if_neg (Nat.not_lt.2 hl), if_pos hh]
  · rw [if_neg (by omega), if_neg (by omega), if_neg (by omega)]

/-! ### VOUCHER -/

theorem ownNumber_iff (s : State) (n : Nat) : s.ownNumber n = true ↔ s.ctl.config.station.map (·.val) = some n := by
  rw [State.ownNumber]
  cases s.ctl.config.station with
  | none => simp
  | some k => simp

/-- An amount past a cap (R2, R3). -/
theorem overCap_iff (s : State) (amount : Nat) :
    s.overCap amount = true ↔ 9999999 < s.acct.credit + s.acct.held + s.openOut + amount ∨
      2 ^ 48 - 1 < s.acct.loaded + s.acct.taken + s.acct.reclaimed + s.openOut + amount := by
  rw [State.overCap, Bool.or_eq_true, decide_eq_true_eq, decide_eq_true_eq]
  rfl

/-- The tests of R18 in order, in the words of the registers. -/
theorem voucherTest_eq (s : State) (branch : BitVec 16) (station : Byte) (serial amount check : BitVec 32) :
    s.voucherTest branch station serial amount check =
      if check ≠ voucherCheck s.ctl.config.key branch station serial amount then some Code.voucherCheck
      else if branch.toNat ≠ s.ctl.config.branch.value ∨ s.ctl.config.station.map (·.val) ≠ some station.toNat then
        some .voucherCheck
      else if serial.toNat ≤ s.acct.lastSerial then some .voucherDuplicate
      else if s.acct.lastSerial + 1 < serial.toNat then some .voucherSequence
      else if 9999999 < s.acct.credit + s.acct.held + s.openOut + amount.toNat ∨
          2 ^ 48 - 1 < s.acct.loaded + s.acct.taken + s.acct.reclaimed + s.openOut + amount.toNat then some .creditCap
      else if s.spaceForEntry = false then some .journalFull
      else none := by
  simp only [State.voucherTest, overCap_iff, ownNumber_iff, Classical.not_and_iff_not_or_not, ne_eq]

theorem voucherRequest_accepted {s : State} {branch : BitVec 16} {station : Byte} {serial amount check : BitVec 32}
    (hactive : s.ctl.state = .active) (hamount : amount.toNat ≤ creditCap)
    (htest : s.voucherTest branch station serial amount check = none) :
    voucherRequest branch station serial amount check s =
      (s.acceptVoucher serial.toNat amount.toNat,
        .result .ok (s.acceptVoucher serial.toNat amount.toNat).voucherData) := by
  rw [voucherRequest, if_neg (Classical.not_not.2 hactive), if_neg (Nat.not_lt.2 hamount), htest]

theorem voucherRequest_refused {s : State} {branch : BitVec 16} {station : Byte} {serial amount check : BitVec 32}
    {c : Code} (hactive : s.ctl.state = .active) (hamount : amount.toNat ≤ creditCap)
    (htest : s.voucherTest branch station serial amount check = some c) :
    voucherRequest branch station serial amount check s =
      ({ s with acct := { s.acct with limit := s.acct.limit || c == .creditCap } },
        .result c (beBytes 4 s.acct.lastSerial ++ beBytes 4 s.acct.credit ++
          [s.standing.code, flagByte (s.acct.limit || c == .creditCap)])) := by
  rw [voucherRequest, if_neg (Classical.not_not.2 hactive), if_neg (Nat.not_lt.2 hamount), htest]
  by_cases hc : c = .creditCap
  · subst hc
    rw [beq_self_eq_true, Bool.or_true]
    rfl
  · rw [beq_eq_false_iff_ne.2 hc, Bool.or_false]
    simp only [if_neg hc]
    rfl

/-- Settles O15. -/
theorem voucherAccepted : Obligations.VoucherAccepted := by
  intro branch station serial amount check s hready hactive hamount hcheck hbranch hstation hserial hcap hasc hspace
  have htest : (s.accepting (.voucher branch station serial amount check) (some true)).voucherTest branch station serial
      amount check = none := by
    have h : s.voucherTest branch station serial amount check = none := by
      rw [voucherTest_eq, if_neg (Classical.not_not.2 hcheck), if_neg (not_or.2 ⟨Classical.not_not.2 hbranch, Classical.not_not.2 hstation⟩),
        if_neg (by omega), if_neg (by omega), if_neg (by omega), if_neg (by rw [hspace]; decide)]
    exact h
  refine (exec_supervisor (.voucher branch station serial amount check) rfl hready 
    (voucherRequest_accepted hactive hamount htest)).trans ?_
  rw [acceptVoucher_eq]
  rfl

/-- Settles O16. -/
theorem voucherTestsInOrder : Obligations.VoucherTestsInOrder := by
  intro branch station serial amount check s c hready hactive hamount htest
  rw [← voucherTest_eq] at htest
  exact exec_supervisor (.voucher branch station serial amount check) rfl hready
    (voucherRequest_refused (s := s.accepting (.voucher branch station serial amount check) (some true)) hactive hamount
      htest)

/-! ### TARIFF_CLASS -/

/-- A TARIFF_CLASS of an ACTIVE station with an OPEN bank runs. -/
theorem opened_run_of {s : State} (hactive : s.ctl.state = .active) (hopened : s.tariff.stagedState = .opened)
    (run : State → State × Answer) : whenActive (whenOpened run) s = run s :=
  opened_run (not_or.2 ⟨Classical.not_not.2 hactive, Classical.not_not.2 hopened⟩) run

/-- The tests of a head (R30). -/
theorem headAssembly_eq (c : Fin 8) (rounding services bandCount : Byte) (factors : List (BitVec 24)) :
    headAssembly c rounding services bandCount factors =
      if rounding.toNat ≤ 1 ∧ 1 ≤ factors.length ∧ factors.length ≤ 16 ∧
          (∀ f ∈ factors, 32768 ≤ f.toNat ∧ f.toNat ≤ 262144) ∧ 1 ≤ bandCount.toNat ∧ bandCount.toNat ≤ 12 then
        some { cls := c, rounding := if rounding = 0 then .up else .half, factors := factors.map (·.toNat),
               services := services, bandCount := bandCount.toNat, bands := [] }
      else none := by
  by_cases h0 : rounding = 0
  · subst h0
    simp [headAssembly, roundingOf]
  by_cases h1 : rounding = 1
  · subst h1
    simp [headAssembly, roundingOf]
  · have hround : ¬ rounding.toNat ≤ 1 := by
      intro hle
      have h := Nat.le_one_iff_eq_zero_or_eq_one.1 hle
      exact h.elim (fun h => h0 (BitVec.eq_of_toNat_eq h)) fun h => h1 (BitVec.eq_of_toNat_eq h)
    rw [headAssembly, roundingOf, if_neg h0, if_neg h1, if_neg fun h => hround h.1]

/-- A head part for a class (R30). -/
theorem tariffHeadRequest_class (c : Fin 8) (rounding services bandCount : Byte) (factors : List (BitVec 24)) (s : State) :
    tariffHeadRequest (BitVec.ofNat 8 c.val) rounding services bandCount factors s =
      match headAssembly c rounding services bandCount factors with
      | some a => (s.onTariff fun u => { u with assembly := some a }, .result .ok [BitVec.ofNat 8 c.val, bandCount, 0, 0])
      | none => (s.onTariff fun u => { u with assembly := none }, .result .tariffFormat []) := by
  have hc : (BitVec.ofNat 8 c.val).toNat = c.val := by
    rw [BitVec.toNat_ofNat, Nat.mod_eq_of_lt (by have := c.isLt; omega)]
  have hlt : (BitVec.ofNat 8 c.val).toNat < 8 := by rw [hc]; exact c.isLt
  have hfin : (⟨(BitVec.ofNat 8 c.val).toNat, hlt⟩ : Fin 8) = c := Fin.ext hc
  rw [tariffHeadRequest, dif_pos hlt, hfin] <;> rfl

/-- Settles O19. -/
theorem surchargeAndHeadPartsAreTaken : Obligations.SurchargeAndHeadPartsAreTaken := by
  intro s hready hactive hopened
  refine ⟨fun values => ⟨_, _, _, (exec_supervisor (.tariffSurcharge 8 values) rfl hready
    ((opened_run_of (by exact hactive) (by exact hopened) _).trans (if_pos rfl))).trans rfl⟩, fun c rounding services bandCount factors hfactors => ?_⟩
  have hfits : (Request.tariffHead (BitVec.ofNat 8 c.val) rounding services bandCount factors).paramCount ≤ 60 := by
    simp only [Request.paramCount]
    omega
  have hrun := (opened_run_of (s := s.accepting (.tariffHead (BitVec.ofNat 8 c.val) rounding services bandCount factors)
    (some true)) hactive hopened (tariffHeadRequest (BitVec.ofNat 8 c.val) rounding services bandCount factors)).trans
    (tariffHeadRequest_class c rounding services bandCount factors _)
  rw [headAssembly_eq] at hrun
  split
  · rename_i hpass
    rw [if_pos hpass] at hrun
    exact exec_supervisor (.tariffHead (BitVec.ofNat 8 c.val) rounding services bandCount factors) rfl hready hrun hfits
  · rename_i hpass
    rw [if_neg hpass] at hrun
    exact exec_supervisor (.tariffHead (BitVec.ofNat 8 c.val) rounding services bandCount factors) rfl hready hrun hfits

/-- A rising list is one whose neighbours rise. -/
theorem pairwise_lt_cons_cons {a b : Nat} {l : List Nat} :
    (a :: b :: l).Pairwise (· < ·) ↔ a < b ∧ (b :: l).Pairwise (· < ·) := by
  rw [List.pairwise_cons]
  constructor
  · exact fun ⟨ha, hb⟩ => ⟨ha b List.mem_cons_self, hb⟩
  · intro ⟨hab, hb⟩
    exact ⟨List.forall_mem_cons.2 ⟨hab, fun x hx => Nat.lt_trans hab ((List.pairwise_cons.1 hb).1 x hx)⟩, hb⟩

/-- Bands pass when their upper weights rise from the one before and their fields are in range (R25, R31). -/
theorem bandsPass_iff (before : Nat) (bands : List BandFields) :
    bandsPass before (bands.map bandOf) = true ↔
      (before :: bands.map (·.upper.toNat)).Pairwise (· < ·) ∧
        ∀ b ∈ bands, b.upper.toNat ≤ 20000 ∧ b.base.toNat ≤ 99999000 ∧ b.stepSize.toNat ≤ 20000 ∧
          b.stepCharge.toNat ≤ 9999000 := by
  induction bands generalizing before with
  | nil => simp [bandsPass]
  | cons b bs ih =>
    rw [List.map_cons, List.map_cons, bandsPass, Bool.and_eq_true, pairwise_lt_cons_cons, List.forall_mem_cons]
    have htail : (bandOf b).upper = b.upper.toNat := rfl
    rw [htail, ih]
    simp only [bandOf, Bool.and_eq_true]
    constructor
    · rintro ⟨⟨⟨⟨⟨⟨-, hu⟩, hlt⟩, hb⟩, hs⟩, hc⟩, hchain, hrest⟩
      exact ⟨⟨of_decide_eq_true hlt, hchain⟩,
        ⟨of_decide_eq_true hu, of_decide_eq_true hb, of_decide_eq_true hs, of_decide_eq_true hc⟩, hrest⟩
    · rintro ⟨⟨hlt, hchain⟩, ⟨hu, hb, hs, hc⟩, hrest⟩
      exact ⟨⟨⟨⟨⟨⟨decide_eq_true (Nat.one_le_iff_ne_zero.2 (by omega)), decide_eq_true hu⟩, decide_eq_true hlt⟩,
        decide_eq_true hb⟩, decide_eq_true hs⟩, decide_eq_true hc⟩, hchain, hrest⟩

/-- The assembly takes bands, and writes its class when it has them all (R31, R32). -/
theorem assemble_eq (a : Assembly) (s : State) :
    s.assemble a = { s with tariff :=
      if a.bands.length = a.bandCount then
        { s.tariff with
          staged := { s.tariff.staged with classes := s.tariff.staged.classes.set a.cls (some a.record) },
          assembly := none }
      else { s.tariff with assembly := some a } } := by
  unfold State.assemble
  split <;> rfl

/-- A band part that fits the open assembly (R31). -/
theorem tariffBandsRequest_fits {s : State} {a : Assembly} {bands : List BandFields} (ha : s.tariff.assembly = some a)
    (h1 : 1 ≤ bands.length) (h4 : bands.length ≤ 4) (hcount : a.bands.length + bands.length ≤ a.bandCount)
    (h12 : a.bandCount ≤ 12) :
    tariffBandsRequest (BitVec.ofNat 8 a.cls.val) (BitVec.ofNat 8 a.bands.length) bands s =
      if bandsPass (lastUpper a.bands) (bands.map bandOf) then
        (s.assemble { a with bands := a.bands ++ bands.map bandOf },
          .result .ok [BitVec.ofNat 8 a.cls.val, BitVec.ofNat 8 a.bandCount, BitVec.ofNat 8 (a.bands.length + bands.length),
            if a.bands.length + bands.length = a.bandCount then 1 else 0])
      else (s.onTariff fun u => { u with assembly := none }, .result .tariffFormat []) := by
  have hcls : (BitVec.ofNat 8 a.cls.val).toNat = a.cls.val := by
    rw [BitVec.toNat_ofNat, Nat.mod_eq_of_lt (by have := a.cls.isLt; omega)]
  have hfirst : (BitVec.ofNat 8 a.bands.length).toNat = a.bands.length := by
    rw [BitVec.toNat_ofNat, Nat.mod_eq_of_lt (by omega)]
  have hfit : bandsFit a (BitVec.ofNat 8 a.cls.val) (BitVec.ofNat 8 a.bands.length) bands = true := by
    simp only [bandsFit, hcls, hfirst, beq_self_eq_true, Bool.and_eq_true, decide_eq_true_eq]
    exact ⟨⟨⟨⟨trivial, trivial⟩, h1⟩, h4⟩, hcount⟩
  simp only [tariffBandsRequest, ha, hfit, if_true, beBytes_one, List.length_append, List.length_map, flagByte,
    decide_eq_true_eq, List.cons_append, List.nil_append]

/-- Settles O20. -/
theorem bandPartFillsTheAssembly : Obligations.BandPartFillsTheAssembly := by
  intro a bands s hready hactive hopened ha h1 h4 hcount h12 target first complete
  have hfits : (Request.tariffBands target first bands).paramCount ≤ 60 := by
    simp only [Request.paramCount]
    omega
  have hrun := (opened_run_of (s := s.accepting (.tariffBands target first bands) (some true)) hactive hopened
    (tariffBandsRequest target first bands)).trans (tariffBandsRequest_fits ha h1 h4 hcount h12)
  split
  · rename_i hpass
    rw [if_pos ((bandsPass_iff _ _).2 hpass), assemble_eq] at hrun
    refine (exec_supervisor (.tariffBands target first bands) rfl hready hrun hfits).trans ?_
    simp only [List.length_append, List.length_map]
    rfl
  · rename_i hpass
    rw [if_neg (mt (bandsPass_iff _ _).1 hpass)] at hrun
    exact exec_supervisor (.tariffBands target first bands) rfl hready hrun hfits

/-! ### TARIFF_CLOSE -/

/-- The tariff store after a TARIFF_CLOSE that passes its test, before its switch if its day has come (R33). -/
def TariffStore.closed (generation day : Nat) (u : TariffStore) : TariffStore :=
  { u with assembly := none, stagedState := .ready, stagedGeneration := generation, effectiveDay := day }

/-- The answer of a TARIFF_CLOSE that passes its test, from the state after it (R33). -/
def State.closeAnswer (t : State) : Answer :=
  .result .ok ([t.tariff.stagedState.code, BitVec.ofNat 8 t.activeGeneration, BitVec.ofNat 8 t.tariff.stagedGeneration] ++
    beBytes 2 t.tariff.effectiveDay)

theorem tariffCloseRequest_newer {s : State} {generation : Byte} {day : BitVec 16} (hopened : s.tariff.stagedState = .opened)
    (hnew : s.activeGeneration < generation.toNat) :
    tariffCloseRequest generation day s =
      ((s.onTariff (TariffStore.closed generation.toNat day.toNat)).tariffDay,
        (s.onTariff (TariffStore.closed generation.toNat day.toNat)).tariffDay.closeAnswer) := by
  rw [tariffCloseRequest, if_neg (Classical.not_not.2 hopened), if_neg (Nat.not_le.2 hnew)]
  simp only [State.closeAnswer, beBytes_one]
  rfl

/-- A TARIFF_CLOSE whose day has not come makes the bank READY (R33). -/
theorem tariffCloseRequest_later {s : State} {generation : Byte} {day : BitVec 16} (hopened : s.tariff.stagedState = .opened)
    (hnew : s.activeGeneration < generation.toNat) (hlater : s.time.day < day.toNat) :
    tariffCloseRequest generation day s = ({ s with tariff := s.tariff.closed generation.toNat day.toNat },
      .result .ok ([2, BitVec.ofNat 8 s.activeGeneration, generation] ++ beBytes 2 day.toNat)) := by
  have hstays : (s.onTariff (TariffStore.closed generation.toNat day.toNat)).tariffDay =
      s.onTariff (TariffStore.closed generation.toNat day.toNat) := if_neg fun h => absurd hlater (Nat.not_lt.2 h.2)
  have hanswer : (s.onTariff (TariffStore.closed generation.toNat day.toNat)).closeAnswer = .result .ok
      ([2, BitVec.ofNat 8 s.activeGeneration, BitVec.ofNat 8 generation.toNat] ++ beBytes 2 day.toNat) := rfl
  rw [tariffCloseRequest_newer hopened hnew, hstays, hanswer, ← byte_eq_ofNat]
  rfl

/-- A TARIFF_CLOSE whose day has come switches the bank in (R33, R34). -/
theorem tariffCloseRequest_due {s : State} {generation : Byte} {day : BitVec 16} (hopened : s.tariff.stagedState = .opened)
    (hnew : s.activeGeneration < generation.toNat) (hdue : day.toNat ≤ s.time.day) :
    tariffCloseRequest generation day s = ({ s with
        tariff := (s.tariff.closed generation.toNat day.toNat).switched,
        host := { s.host with alerts := { s.host.alerts with tariffSwitched := true } } },
      .result .ok [0, generation, 0, 0, 0]) := by
  have hswitch : (s.onTariff (TariffStore.closed generation.toNat day.toNat)).tariffDay = { s with
      tariff := (s.tariff.closed generation.toNat day.toNat).switched,
      host := { s.host with alerts := { s.host.alerts with tariffSwitched := true } } } := if_pos ⟨rfl, hdue⟩
  have hanswer : State.closeAnswer { s with
      tariff := (s.tariff.closed generation.toNat day.toNat).switched,
      host := { s.host with alerts := { s.host.alerts with tariffSwitched := true } } } =
      .result .ok [0, BitVec.ofNat 8 generation.toNat, 0, 0, 0] := by
    show Answer.result .ok ([StagedState.empty.code, BitVec.ofNat 8 generation.toNat, BitVec.ofNat 8 0] ++ beBytes 2 0) = _
    rfl
  rw [tariffCloseRequest_newer hopened hnew, hswitch, hanswer, ← byte_eq_ofNat]

/-- Settles O21. -/
theorem tariffCloseMakesReadyOrSwitches : Obligations.TariffCloseMakesReadyOrSwitches := by
  intro generation day s hready hactive hopened
  refine ⟨fun hold => ?_, fun hnew hlater => ?_, fun hnew hdue => ?_⟩
  · exact exec_supervisor (.tariffClose generation day) rfl hready
      ((whenActive_of_active (by exact hactive) _).trans ((if_neg (Classical.not_not.2 hopened)).trans (if_pos hold)))
  · exact exec_supervisor (.tariffClose generation day) rfl hready
      ((whenActive_of_active (by exact hactive) _).trans (tariffCloseRequest_later hopened hnew hlater))
  · exact exec_supervisor (.tariffClose generation day) rfl hready
      ((whenActive_of_active (by exact hactive) _).trans (tariffCloseRequest_due hopened hnew hdue))

end Sys2Proof.Machine
end

section
/-! PROOFS. The rating of items and batches (R38 to R44). -/

namespace Sys2Proof.Machine

/-! ### The arithmetic of stages 3 to 5 -/

/-- Stage 3 counts the steps between the lower bound and the weight, a started one as a whole one (R41). -/
theorem bandCharge_steps {w lo : Nat} {b : Band} (hw : lo < w) (hstep : 0 < b.stepSize) :
    ∃ k, 1 ≤ k ∧ k ≤ w - lo ∧ (k - 1) * b.stepSize < w - lo ∧ w - lo ≤ k * b.stepSize ∧
      bandCharge w lo b = b.base + k * b.stepCharge := by
  have hlow := Nat.div_mul_le_self (w - lo + b.stepSize - 1) b.stepSize
  have hhigh := Nat.lt_div_mul_add (a := w - lo + b.stepSize - 1) hstep
  have hone : 1 ≤ (w - lo + b.stepSize - 1) / b.stepSize := (Nat.one_le_div_iff hstep).2 (by omega)
  refine ⟨(w - lo + b.stepSize - 1) / b.stepSize, hone, ?_, ?_, by omega, if_neg (Nat.ne_of_gt hstep)⟩
  · rw [Nat.div_le_iff_le_mul_add_pred hstep]
    have : w - lo ≤ b.stepSize * (w - lo) := Nat.le_mul_of_pos_left _ hstep
    omega
  · rw [Nat.sub_mul, Nat.one_mul]
    omega

/-- Stage 3 within the ranges of R25. -/
theorem bandCharge_le {w lo : Nat} {b : Band} (hw : lo < w) (h20 : w ≤ 20000) (hbase : b.base ≤ 99999000)
    (hcharge : b.stepCharge ≤ 9999000) : bandCharge w lo b ≤ 200079999000 := by
  by_cases hstep : b.stepSize = 0
  · rw [bandCharge, if_pos hstep]
    omega
  · obtain ⟨k, -, hk, -, -, hval⟩ := bandCharge_steps hw (Nat.pos_of_ne_zero hstep)
    have := Nat.mul_le_mul (show k ≤ 20000 by omega) hcharge
    omega

/-- Stages 4: the product within 64 bits, and the remainder that is discarded (R42). -/
theorem zoneCharge_spec {charge factor : Nat} (hcharge : charge ≤ 200079999000) (hfactor : factor ≤ 262144) :
    charge * factor ≤ 52449771257856000 ∧ charge * factor < 2 ^ 64 ∧
    65536 * zoneCharge charge factor ≤ charge * factor ∧ charge * factor < 65536 * (zoneCharge charge factor + 1) ∧
    zoneCharge charge factor ≤ 800319996000 := by
  have hproduct : charge * factor ≤ 200079999000 * 262144 := Nat.mul_le_mul hcharge hfactor
  rw [zoneCharge]
  omega

/-! ### One item -/

/-- A service outside those of the class is asked for (R39). -/
theorem serviceNotOffered_iff (asked offered : Byte) :
    asked &&& ~~~offered ≠ 0 ↔ ∃ n : Fin 8, asked.getLsbD n.val = true ∧ offered.getLsbD n.val = false := by
  have hnone : asked &&& ~~~offered = 0 ↔ ∀ n : Fin 8, ¬ (asked.getLsbD n.val = true ∧ offered.getLsbD n.val = false) := by
    constructor
    · intro h n hn
      have hbit := congrArg (fun x => BitVec.getLsbD x n.val) h
      rw [BitVec.getLsbD_and, hn.1, BitVec.getLsbD_not, hn.2, decide_eq_true n.isLt] at hbit
      exact nomatch hbit.trans BitVec.getLsbD_zero
    · intro h
      apply BitVec.eq_of_getLsbD_eq
      intro i hi
      have hn := h ⟨i, hi⟩
      simp only [BitVec.getLsbD_and, BitVec.getLsbD_not, hi, decide_true]
      cases ha : asked.getLsbD i with
      | false => exact BitVec.getLsbD_zero.symm
      | true =>
        cases ho : offered.getLsbD i with
        | true => exact BitVec.getLsbD_zero.symm
        | false => exact absurd ⟨ha, ho⟩ hn
  exact (not_congr hnone).trans Classical.not_forall_not

/-- Stage 1, by the first check that fails (R39). -/
theorem itemCheck_eq (k : ClassRecord) (i : Item) :
    itemCheck k i =
      if i.weight.toNat = 0 ∨ lastUpper k.bands < i.weight.toNat then some .weightRange
      else if k.factors.length ≤ i.zone.toNat then some .zoneRange
      else if ∃ n : Fin 8, i.services.getLsbD n.val = true ∧ k.services.getLsbD n.val = false then some .serviceNotOffered
      else none := by
  have hweight : ¬(1 ≤ i.weight.toNat ∧ i.weight.toNat ≤ lastUpper k.bands) ↔
      i.weight.toNat = 0 ∨ lastUpper k.bands < i.weight.toNat := by omega
  simp only [itemCheck, hweight, serviceNotOffered_iff]

/-- The surcharges of the eight services (R44). -/
theorem surchargeSum_eq (table : Vector (BitVec 16) 8) (services : Byte) :
    let s (n : Fin 8) : Nat := if services.getLsbD n.val then table[n].toNat else 0
    surchargeSum table services = s 0 + s 1 + s 2 + s 3 + s 4 + s 5 + s 6 + s 7 := by
  intro s
  have hrange : List.finRange 8 = [0, 1, 2, 3, 4, 5, 6, 7] := by decide
  have hsum : surchargeSum table services = ((List.finRange 8).map s).sum := rfl
  rw [hsum, hrange]
  simp only [List.map_cons, List.map_nil, List.sum_cons, List.sum_nil]
  omega

/-- Stages 2 to 6 from the band that stage 2 selects (R40 to R44). -/
theorem itemValue_eq {content : BankContent} {k : ClassRecord} {i : Item} {before after : List Band} {b : Band}
    {factor : Nat} (hbands : k.bands = before ++ b :: after) (hbefore : ∀ x ∈ before, x.upper < i.weight.toNat)
    (hb : i.weight.toNat ≤ b.upper) (hfactor : k.factors[i.zone.toNat]? = some factor) :
    itemValue content k i =
      roundCents k.rounding (zoneCharge (bandCharge i.weight.toNat (lastUpper before) b) factor) +
        surchargeSum content.surcharges i.services := by
  rw [itemValue, hbands, bandFor_eq_first hbefore hb, List.getD_eq_getElem?_getD, hfactor]
  rfl

/-- An item of a class that the bank has: its checks, then its value and the cap (R39 to R44). -/
theorem rateItem_class {content : BankContent} {i : Item} {c : Fin 8} {k : ClassRecord}
    (hk : content.classes[c] = some k) (hc : c.val = i.cls.toNat) :
    rateItem content i =
      match itemCheck k i with
      | some code => .error code
      | none => if 99999 < itemValue content k i then .error .itemCap else .ok (c, itemValue content k i) := by
  obtain ⟨n, hn⟩ := c
  subst hc
  have hk' : content.classes[i.cls.toNat] = some k := hk
  rw [rateItem, dif_pos hn, hk'] <;> rfl

/-- An item of a class that the bank has not (R39). -/
theorem rateItem_absent {content : BankContent} {i : Item} {c : Fin 8}
    (hk : content.classes[c] = none) (hc : c.val = i.cls.toNat) : rateItem content i = .error .classAbsent := by
  obtain ⟨n, hn⟩ := c
  subst hc
  have hk' : content.classes[i.cls.toNat] = none := hk
  rw [rateItem, dif_pos hn, hk']

/-! ### A batch -/

/-- A batch is rated when every item is (R38). -/
theorem rateBatch_ok_iff (content : BankContent) (n : Nat) (items : List Item) (rated : List (Fin 8 × Nat)) :
    rateBatch content n items = .ok rated ↔ items.map (rateItem content) = rated.map Except.ok := by
  induction items generalizing n rated with
  | nil => cases rated <;> simp [rateBatch]
  | cons i is ih =>
    cases hi : rateItem content i with
    | error c => cases rated <;> simp [rateBatch, hi]
    | ok v =>
      cases hr : rateBatch content (n + 1) is with
      | error e =>
        cases rated with
        | nil => simp [rateBatch, hi, hr]
        | cons w vs =>
          have hvs : is.map (rateItem content) ≠ vs.map Except.ok := fun h => by
            rw [(ih (n + 1) vs).2 h] at hr
            exact nomatch hr
          simp [rateBatch, hi, hr, hvs]
      | ok vs =>
        have hvs := (ih (n + 1) vs).1 hr
        cases rated with
        | nil => simp [rateBatch, hi, hr]
        | cons w ws =>
          have hinj : vs.map (Except.ok (ε := Code)) = ws.map Except.ok ↔ vs = ws :=
            List.map_inj_right fun _ _ => Except.ok.inj
          simp [rateBatch, hi, hr, hvs, hinj]

/-- A batch is refused with the first item that is (R38). -/
theorem rateBatch_error_iff (content : BankContent) (n m : Nat) (items : List Item) (code : Code) :
    rateBatch content n items = .error (code, m) ↔ ∃ before i after, items = before ++ i :: after ∧
      n + before.length = m ∧ rateItem content i = .error code ∧ ∀ x ∈ before, ∃ v, rateItem content x = .ok v := by
  induction items generalizing n with
  | nil => simp [rateBatch]
  | cons i is ih =>
    cases hi : rateItem content i with
    | error c =>
      simp only [rateBatch, hi, Except.error.injEq, Prod.mk.injEq]
      constructor
      · rintro ⟨rfl, rfl⟩
        exact ⟨[], i, is, rfl, rfl, hi, fun x hx => absurd hx List.not_mem_nil⟩
      · rintro ⟨before, j, after, hsplit, hlen, hj, hbefore⟩
        cases before with
        | nil =>
          obtain ⟨rfl, rfl⟩ := List.cons.inj hsplit
          exact ⟨Except.error.inj (hi.symm.trans hj), hlen⟩
        | cons x xs =>
          obtain ⟨rfl, -⟩ := List.cons.inj hsplit
          obtain ⟨v, hv⟩ := hbefore i List.mem_cons_self
          rw [hi] at hv
          exact nomatch hv
    | ok v =>
      have hstep : rateBatch content n (i :: is) = .error (code, m) ↔ rateBatch content (n + 1) is = .error (code, m) := by
        simp only [rateBatch, hi]
        split <;> simp_all
      rw [hstep, ih]
      constructor
      · rintro ⟨before, j, after, rfl, hlen, hj, hbefore⟩
        refine ⟨i :: before, j, after, rfl, by rw [List.length_cons]; omega, hj, fun x hx => ?_⟩
        rcases List.mem_cons.1 hx with rfl | hx
        · exact ⟨v, hi⟩
        · exact hbefore x hx
      · rintro ⟨before, j, after, hsplit, hlen, hj, hbefore⟩
        cases before with
        | nil =>
          obtain ⟨rfl, rfl⟩ := List.cons.inj hsplit
          rw [hi] at hj
          exact nomatch hj
        | cons x xs =>
          obtain ⟨rfl, rfl⟩ := List.cons.inj hsplit
          exact ⟨xs, j, after, rfl, by rw [List.length_cons] at hlen; omega, hj,
            fun y hy => hbefore y (List.mem_cons_of_mem _ hy)⟩

/-- Settles O22. -/
theorem ratingArithmetic : Obligations.RatingArithmetic := by
  refine ⟨fun w lo b hlo hw hbase _ hcharge => ⟨fun h => if_pos h, fun hstep => ?_, ?_, ?_⟩, fun upper => ?_,
    fun charge factor => zoneCharge_spec, fun z => ⟨rfl, rfl⟩, fun content i => ⟨fun h => ?_, fun c hc hk => ?_,
      fun c k hc hk => ?_⟩, fun content items => ⟨rateBatch_ok_iff content 0 items, fun code n => ?_⟩⟩
  · obtain ⟨k, h1, h2, h3, h4, h5⟩ := bandCharge_steps hlo hstep
    exact ⟨k, h1, by omega, h3, h4, h5⟩
  · exact bandCharge_le hlo hw hbase hcharge
  · exact Nat.lt_of_le_of_lt (bandCharge_le hlo hw hbase hcharge) (by decide)
  · simp only [bandCharge, Nat.one_ne_zero, if_false, Nat.div_one, Nat.sub_zero, Nat.add_sub_cancel]
  · exact dif_neg (Nat.not_lt.2 h)
  · exact rateItem_absent hk hc
  · rw [rateItem_class hk hc, itemCheck_eq]
    split
    · rfl
    split
    · rfl
    split
    · rfl
    · intro before after b factor hbands hbefore hb hfactor
      simp only [itemValue_eq hbands hbefore hb hfactor, surchargeSum_eq]
  · simpa only [Nat.zero_add] using rateBatch_error_iff content 0 n items code

end Sys2Proof.Machine
end

section
/-! PROOFS. The reservation unit: IMPRINT, CONFIRM, deadlines and PBUSY (R51 to R66). -/

namespace Sys2Proof.Machine

/-! ### Class totals -/

theorem printedIn_getElem (totals : Vector ClassTotal 8) (i : ResItem) (c : Fin 8) :
    (printedIn totals i.cls i.value)[c] =
      if i.cls = c then { count := min (totals[c].count + 1) 4294967295, value := totals[c].value + i.value }
      else totals[c] := by
  by_cases h : i.cls = c
  · subst h
    rw [if_pos rfl]
    exact Vector.getElem_set_self i.cls.isLt
  · rw [if_neg h]
    exact Vector.getElem_set_ne i.cls.isLt c.isLt fun he => h (Fin.ext he)

/-- Counting items gives each class its own: their number, up to the greatest count, and their values (R66). -/
theorem printedIn_foldl (items : List ResItem) (totals : Vector ClassTotal 8) (h : ∀ c : Fin 8, totals[c].count ≤ 4294967295)
    (c : Fin 8) :
    (items.foldl (fun t i => printedIn t i.cls i.value) totals)[c] =
      { count := min (totals[c].count + (items.filter (·.cls == c)).length) 4294967295,
        value := totals[c].value + ((items.filter (·.cls == c)).map (·.value)).sum } := by
  induction items generalizing totals with
  | nil => rw [List.foldl_nil, List.filter_nil, List.length_nil, Nat.add_zero, Nat.min_eq_left (h c)]; rfl
  | cons i is ih =>
    have hcap : ∀ d : Fin 8, (printedIn totals i.cls i.value)[d].count ≤ 4294967295 := by
      intro d
      rw [printedIn_getElem]
      split
      · exact Nat.min_le_right _ _
      · exact h d
    rw [List.foldl_cons, ih _ hcap, printedIn_getElem, List.filter_cons]
    by_cases hc : i.cls = c
    · rw [if_pos hc, if_pos (beq_iff_eq.2 hc), List.length_cons, List.map_cons, List.sum_cons]
      simp only [ClassTotal.mk.injEq]
      omega
    · rw [if_neg hc, if_neg (mt beq_iff_eq.1 hc)]

/-! ### IMPRINT -/

/-- The tests of R51 before rating. -/
def State.imprintFault (s : State) : Option Code :=
  if s.ctl.state ≠ .active then some .wrongState
  else if s.time.timeLost = true then some .timeLost
  else if s.inspection = .lapsed then some .inspectionLapsed
  else if s.tariff.active = none then some .noTariff
  else if 4 ≤ s.resv.table.length then some .reservationFull
  else none

theorem imprintFault_none {s : State} (h : s.imprintFault = none) :
    s.ctl.state = .active ∧ ¬ s.time.timeLost = true ∧ s.inspection ≠ .lapsed ∧ ¬ 4 ≤ s.resv.table.length := by
  unfold State.imprintFault at h
  split at h
  · exact nomatch h
  rename_i h1
  split at h
  · exact nomatch h
  rename_i h2
  split at h
  · exact nomatch h
  rename_i h3
  split at h
  · exact nomatch h
  split at h
  · exact nomatch h
  rename_i h5
  exact ⟨Classical.not_not.1 h1, h2, h3, h5⟩

theorem imprintFault_eq_none {s : State} {bank : Bank} (hactive : s.ctl.state = .active) (htime : s.time.timeLost = false)
    (hinsp : s.inspection ≠ .lapsed) (hbank : s.tariff.active = some bank) (hroom : s.resv.table.length < 4) :
    s.imprintFault = none := by
  rw [State.imprintFault, if_neg (Classical.not_not.2 hactive), if_neg (by rw [htime]; exact Bool.false_ne_true), if_neg hinsp,
    if_neg (by rw [hbank]; exact Option.some_ne_none _), if_neg (Nat.not_le.2 hroom)]

theorem imprintRequest_fault {s : State} {items : List Item} {c : Code} (h1 : 1 ≤ items.length) (h8 : items.length ≤ 8)
    (h : s.imprintFault = some c) : imprintRequest items s = s.imprintRefusal c := by
  rw [imprintRequest, if_neg (Classical.not_not.2 ⟨h1, h8⟩)]
  unfold State.imprintFault at h
  split at h
  · rename_i hs
    rw [if_pos hs, ← Option.some.inj h]
  · rename_i hs
    rw [if_neg hs]
    split at h
    · rename_i ht
      rw [if_pos ht, ← Option.some.inj h]
    · rename_i ht
      rw [if_neg ht]
      split at h
      · rename_i hi
        rw [if_pos hi, ← Option.some.inj h]
      · rename_i hi
        rw [if_neg hi]
        split at h
        · rename_i ha
          rw [ha, ← Option.some.inj h]
        · split at h
          · rename_i ha hr
            obtain ⟨bank, hb⟩ := Option.ne_none_iff_exists'.1 ha
            simp only [hb, if_pos hr, ← Option.some.inj h]
          · exact nomatch h

/-- A batch that reaches rating and fails it is refused with the item's code and index (R51, R52). -/
theorem imprintRequest_refused {s : State} {items : List Item} {bank : Bank} {c : Code} {n : Nat}
    (h1 : 1 ≤ items.length) (h8 : items.length ≤ 8) (htests : s.imprintFault = none)
    (hbank : s.tariff.active = some bank) (hrate : rateBatch bank.content 0 items = .error (c, n)) :
    imprintRequest items s = s.itemRefusal c n := by
  obtain ⟨hactive, htime, hinsp, hroom⟩ := imprintFault_none htests
  simp only [imprintRequest, if_neg (Classical.not_not.2 (And.intro h1 h8)), if_neg (Classical.not_not.2 hactive), if_neg htime, if_neg hinsp,
    hbank, if_neg hroom, hrate]

/-- A batch that is rated goes to test 7 and its grant (R51 to R53). -/
theorem imprintRequest_rated {s : State} {items : List Item} {bank : Bank} {rated : List (Fin 8 × Nat)}
    (h1 : 1 ≤ items.length) (h8 : items.length ≤ 8) (htests : s.imprintFault = none)
    (hbank : s.tariff.active = some bank) (hrate : rateBatch bank.content 0 items = .ok rated) :
    imprintRequest items s = s.grant rated := by
  obtain ⟨hactive, htime, hinsp, hroom⟩ := imprintFault_none htests
  simp only [imprintRequest, if_neg (Classical.not_not.2 (And.intro h1 h8)), if_neg (Classical.not_not.2 hactive), if_neg htime, if_neg hinsp,
    hbank, if_neg hroom, hrate]

theorem activeGeneration_of {s : State} {bank : Bank} (h : s.tariff.active = some bank) :
    s.activeGeneration = bank.generation := by
  rw [State.activeGeneration, h]

/-- The parameters of an IMPRINT of up to 8 items fit a frame (R190). -/
theorem imprint_fits {items : List Item} (h8 : items.length ≤ 8) : (Request.imprint items).paramCount ≤ 60 := by
  simp only [Request.paramCount]
  omega

theorem grant_reserved {s : State} {rated : List (Fin 8 × Nat)} (hcredit : batchTotal rated ≤ s.acct.credit)
    (hmode : s.ctl.config.confirmMode ≠ .immediate) :
    s.grant rated = (s.grantReserved rated,
      .result .ok ((s.grantReserved rated).grantData s.chosenId s.activeGeneration s.ctl.config.window.value rated)) := by
  rw [State.grant, if_neg (Nat.not_lt.2 hcredit), if_neg hmode]

theorem grant_immediate {s : State} {rated : List (Fin 8 × Nat)} (hcredit : batchTotal rated ≤ s.acct.credit)
    (hmode : s.ctl.config.confirmMode = .immediate) :
    s.grant rated = (s.grantImmediate rated,
      .result .ok ((s.grantImmediate rated).grantData 0 s.activeGeneration 0 rated)) := by
  rw [State.grant, if_neg (Nat.not_lt.2 hcredit), if_pos hmode]

theorem rateBatch_length {content : BankContent} {n : Nat} {items : List Item} {rated : List (Fin 8 × Nat)}
    (h : rateBatch content n items = .ok rated) : rated.length = items.length := by
  simpa using (congrArg List.length ((rateBatch_ok_iff content n items rated).1 h)).symm

/-- Settles O24: the id chosen is the first free one, and the equation of a reserved grant. -/
theorem grantOpensReservation : Obligations.GrantOpensReservation := by
  intro items bank rated s hready hactive htime hinsp hbank hroom h1 h8 hrate hcredit hmode
  obtain ⟨n, hn, hused, hfree, hid⟩ := chosenId_spec hroom
  refine ⟨n, hn, hused, hfree, ?_⟩
  have htests : (s.accepting (.imprint items) none).imprintFault = none :=
    imprintFault_eq_none hactive htime hinsp hbank hroom
  have hrun := imprintRequest_rated h1 h8 htests hbank hrate
  refine (exec_clerk (.imprint items) rfl hready (hrun.trans (grant_reserved hcredit hmode)) (imprint_fits h8)).trans ?_
  have hid' : (s.accepting (.imprint items) none).chosenId = s.chosenId := rfl
  rw [grantReserved_eq, State.newReservation, hid', hid,
    activeGeneration_of (s := s.accepting (.imprint items) none) hbank, ← rateBatch_length hrate]
  rfl

/-- Settles O25. -/
theorem immediateGrantCharges : Obligations.ImmediateGrantCharges := by
  intro items bank rated s hready hactive htime hinsp hbank hroom h1 h8 hrate hcredit hmode hcap credit
  refine ⟨rated.foldl (fun t v => printedIn t v.1 v.2) s.resv.totals, fun c => ?_, ?_⟩
  · rw [← printedIn_foldl _ _ hcap c, List.foldl_map]
  have htests : (s.accepting (.imprint items) none).imprintFault = none :=
    imprintFault_eq_none hactive htime hinsp hbank hroom
  have hrun := imprintRequest_rated h1 h8 htests hbank hrate
  refine (exec_clerk (.imprint items) rfl hready (hrun.trans (grant_immediate hcredit hmode)) (imprint_fits h8)).trans ?_
  rw [grantImmediate_eq, activeGeneration_of (s := s.accepting (.imprint items) none) hbank, ← rateBatch_length hrate]
  rfl

theorem itemRefusal_eq (s : State) (c : Code) (n : Nat) :
    s.itemRefusal c n = ({ s with acct := { s.acct with limit := s.acct.limit || c == .itemCap } },
      .result c [BitVec.ofNat 8 n, 0, 0, 0, 0, 0, 0, 0, 0, flagByte (s.acct.limit || c == .itemCap)]) := by
  rw [State.itemRefusal, beBytes_one]
  by_cases hc : c = .itemCap
  · subst hc
    rw [beq_self_eq_true, Bool.or_true]
    rfl
  · rw [beq_eq_false_iff_ne.2 hc, Bool.or_false]
    simp only [if_neg hc]
    rfl

/-- Settles O26: the tests before rating, the refusal of an item, and test 7. -/
theorem imprintTestsInOrder : Obligations.ImprintTestsInOrder := by
  intro items s hready h1 h8
  have hfits := imprint_fits h8
  refine ⟨fun c hc => ?_, fun bank hactive htime hinsp hbank hroom => ⟨fun c n hrate => ?_, fun rated hrate hshort => ?_⟩⟩
  · exact exec_clerk (.imprint items) rfl hready
      (imprintRequest_fault (s := s.accepting (.imprint items) none) h1 h8 hc) hfits
  · have htests : (s.accepting (.imprint items) none).imprintFault = none :=
      imprintFault_eq_none hactive htime hinsp hbank hroom
    exact exec_clerk (.imprint items) rfl hready
      ((imprintRequest_refused h1 h8 htests hbank hrate).trans (itemRefusal_eq _ c n)) hfits
  · have htests : (s.accepting (.imprint items) none).imprintFault = none :=
      imprintFault_eq_none hactive htime hinsp hbank hroom
    exact exec_clerk (.imprint items) rfl hready
      ((imprintRequest_rated h1 h8 htests hbank hrate).trans (if_pos hshort)) hfits

/-! ### CONFIRM -/

/-- What a notice does to station control does not depend on the host port. -/
theorem notice_ctl_host (s : State) (h : HostPort) : State.ctl (State.notice { s with host := h }) = s.notice.ctl := by
  rw [State.notice, apply_ite State.ctl, State.notice, apply_ite State.ctl]
  rfl

theorem reservation_id {s : State} {id : Nat} {r : Reservation} (h : s.reservation id = some r) : r.id = id :=
  beq_iff_eq.1 (List.find?_some (p := fun x : Reservation => x.id == id) h)

/-- A CONFIRM of an item that exists, by the item's state (R57, R58). -/
theorem confirmRequest_item {s : State} {id index outcome : Byte} {st : ItemState} {r : Reservation} {i : ResItem}
    (hst : outcomeOf outcome = some st) (hcom : s.ctl.state ≠ .unconfigured) (hr : s.reservation id.toNat = some r)
    (hi : r.items[index.toNat]? = some i) :
    confirmRequest id index outcome s =
      if i.state ≠ .granted then (s, .result .itemClosed [i.state.code])
      else (s.confirmItem r index.toNat i st,
        .result .ok ((s.confirmItem r index.toNat i st).confirmData r index.toNat st)) := by
  simp only [confirmRequest, hst, if_neg hcom, hr, hi]

/-- The table with a reservation in its new form, or without it when it has no GRANTED item left (R49, R58). -/
def storedTable (table : List Reservation) (q : Reservation) : List Reservation :=
  if q.grantedItems = [] then table.eraseP (·.id == q.id) else table.map fun p => if p.id = q.id then q else p

theorem storeReservation_eq (s : State) (q : Reservation) :
    s.storeReservation q = { s with resv := { s.resv with table := storedTable s.resv.table q } } := by
  unfold State.storeReservation storedTable
  cases q.grantedItems <;> rfl

theorem noticed_with_host (u : State) (h : HostPort) :
    State.noticed { u with host := h } = { u with ctl := u.notice.ctl, host := h } := by
  rw [State.noticed, notice_ctl_host]

/-- A notice leaves the configuration, so the standing (R12, R164). -/
theorem standing_noticed (u : State) (h : HostPort) :
    State.standing { u with ctl := u.notice.ctl, host := h } = u.standing := by
  have hconfig : u.notice.ctl.config = u.ctl.config := by
    rw [State.notice]
    split <;> rfl
  exact congrArg (fun c : ConfigStore => standingOf c.low.value c.high.value u.acct.credit) hconfig

theorem confirmItem_printed (s : State) (r : Reservation) (index : Nat) (i : ResItem) :
    s.confirmItem r index i .printed = State.noticed { s with
      acct := { s.acct with held := s.acct.held - i.value, used := s.acct.used + i.value },
      resv := { s.resv with
        table := storedTable s.resv.table (r.withItem index .printed), totals := printedIn s.resv.totals i.cls i.value } } := by
  rw [State.confirmItem, moveItem_printed, storeReservation_eq, notice_eq]
  rfl

theorem confirmItem_failed (s : State) (r : Reservation) (index : Nat) (i : ResItem) :
    s.confirmItem r index i .failed = State.noticed { s with
      acct := { s.acct with held := s.acct.held - i.value, credit := s.acct.credit + i.value },
      resv := { s.resv with table := storedTable s.resv.table (r.withItem index .failed) },
      bal := s.balAt (s.acct.credit + i.value),
      host := { s.host with alerts := s.alertsAt (s.acct.credit + i.value) } } := by
  rw [State.confirmItem, moveItem_failed, storeReservation_eq, notice_eq]
  rfl

/-- Settles O27. -/
theorem confirmClosesItem : Obligations.ConfirmClosesItem := by
  intro id index r i s hready hcom hr hi stored granted
  have hid := reservation_id hr
  have hdata : ∀ (t : State) (q : Reservation) (st : ItemState), r.withItem index.toNat st = q →
      t.confirmData r index.toNat st = [id, index, st.code] ++ granted q ++ beBytes 4 t.acct.credit ++
        beBytes 4 t.acct.held ++ [t.standing.code] := by
    rintro t q st rfl
    rw [State.confirmData, hid, beBytes_one, beBytes_one, BitVec.ofNat_toNat, BitVec.ofNat_toNat]
    rfl
  have hstored : ∀ st, storedTable s.resv.table (r.withItem index.toNat st) = stored (r.withItem index.toNat st) := by
    intro st
    have hq : (r.withItem index.toNat st).id = id.toNat := hid
    simp only [storedTable, hq, stored]
  refine ⟨fun hg => ?_, fun hg => ?_, fun hng outcome hout => ?_⟩
  · intro q u
    have hitem : (s.accepting (.confirm id index 1) none).confirmItem r index.toNat i .printed =
        { u with ctl := u.notice.ctl, host := (s.accepting (.confirm id index 1) none).host } := by
      rw [confirmItem_printed]
      exact (congrArg (fun l => State.noticed { u with resv := { u.resv with table := l }, host := _ }) (hstored .printed)).trans
        (noticed_with_host u _)
    have hrun := confirmRequest_item (s := s.accepting (.confirm id index 1) none) (outcome := 1) (st := .printed) rfl hcom
      hr hi
    rw [if_neg (Classical.not_not.2 hg), hdata _ _ .printed rfl, hitem, standing_noticed] at hrun
    exact exec_clerk (.confirm id index 1) rfl hready hrun
  · intro q credit u
    have hitem : (s.accepting (.confirm id index 2) none).confirmItem r index.toNat i .failed =
        { u with ctl := u.notice.ctl, host := { (s.accepting (.confirm id index 2) none).host with
            alerts := s.alertsAt credit } } := by
      rw [confirmItem_failed]
      exact (congrArg (fun l => State.noticed { u with resv := { u.resv with table := l }, host := _ }) (hstored .failed)).trans
        (noticed_with_host u _)
    have hrun := confirmRequest_item (s := s.accepting (.confirm id index 2) none) (outcome := 2) (st := .failed) rfl hcom
      hr hi
    rw [if_neg (Classical.not_not.2 hg), hdata _ _ .failed rfl, hitem, standing_noticed] at hrun
    exact exec_clerk (.confirm id index 2) rfl hready hrun
  · have hst : ∃ st, outcomeOf outcome = some st := by
      rcases hout with rfl | rfl
      · exact ⟨.printed, rfl⟩
      · exact ⟨.failed, rfl⟩
    obtain ⟨st, hst⟩ := hst
    have hrun := confirmRequest_item (s := s.accepting (.confirm id index outcome) none) hst hcom hr hi
    rw [if_pos hng] at hrun
    have hcode : i.state.code = if i.state = .printed then 1 else 2 := by
      cases h : i.state with
      | granted => exact absurd h hng
      | printed => rfl
      | failed => rfl
    rw [← hcode]
    exact exec_clerk (.confirm id index outcome) rfl hready hrun

/-! ### Expiry -/

/-- The reservations of a list closed as printed, with the alert of their expiry (R60, R65). -/
def State.lapsed (rs : List Reservation) (s : State) : State := { s with
  acct := { s.acct with
    held := s.acct.held - (rs.map Reservation.grantedValue).sum,
    used := s.acct.used + (rs.map Reservation.grantedValue).sum },
  resv := { s.resv with
    table := rs.foldl (fun l r => l.eraseP (·.id == r.id)) s.resv.table,
    totals := (rs.flatMap Reservation.grantedItems).foldl (fun t i => printedIn t i.cls i.value) s.resv.totals },
  host := { s.host with alerts := { s.host.alerts with
    reservationExpired := s.host.alerts.reservationExpired || rs.any fun r => !r.grantedItems.isEmpty } } }

theorem expire_lapsed (s : State) (r : Reservation) : s.expire r = (s.lapsed [r]).noticed := by
  rw [expire_noticed, closeAsPrinted_eq, chargeItems_totals]
  unfold State.lapsed
  simp only [List.map_cons, List.map_nil, List.sum_cons, List.sum_nil, List.foldl_cons, List.foldl_nil, List.flatMap_cons,
    List.flatMap_nil, List.append_nil, List.any_cons, List.any_nil, Bool.or_false, Nat.add_zero]
  cases r.grantedItems <;> simp [AlertStore.latch]

theorem lapsed_cons (s : State) (r : Reservation) (rs : List Reservation) :
    (s.lapsed [r]).lapsed rs = s.lapsed (r :: rs) := by
  unfold State.lapsed
  simp only [List.map_cons, List.map_nil, List.sum_cons, List.sum_nil, List.foldl_cons, List.foldl_nil, List.flatMap_cons,
    List.flatMap_nil, List.append_nil, List.any_cons, List.any_nil, Bool.or_false, Nat.add_zero, Nat.sub_sub, Nat.add_assoc,
    List.foldl_append, Bool.or_assoc]

theorem lapsed_nil (s : State) : s.lapsed [] = s := by
  unfold State.lapsed
  simp only [List.any_nil, Bool.or_false]
  rfl

/-- The expiry of one reservation, in the words of the safety vocabulary (R59, R60, R65). -/
theorem expire_expiredAs {s : State} (hcap : ∀ c : Fin 8, s.resv.totals[c].count ≤ 4294967295) (r : Reservation) :
    s.expiredAs (s.expire r) r := by
  rw [expire_lapsed]
  have hone : ∀ f : Reservation → Nat, ([r].map f).sum = f r := fun f => Nat.add_zero _
  have hlapsed : s.lapsed [r] = { s with
      acct := { s.acct with held := s.acct.held - r.grantedValue, used := s.acct.used + r.grantedValue },
      resv := (s.lapsed [r]).resv, host := (s.lapsed [r]).host } := by
    rw [← hone Reservation.grantedValue]
    rfl
  refine ⟨congrArg State.acct hlapsed, fun c => ?_, rfl, rfl, ?_, ?_, ?_⟩
  · have hitems : [r].flatMap Reservation.grantedItems = r.grantedItems := by simp
    rw [← printedIn_foldl _ _ hcap c, ← hitems]
    rfl
  · exact congrArg (s.host.alerts.reservationExpired || ·) (Bool.or_false _)
  · exact (notice_ctl_host { s with acct := (s.lapsed [r]).acct, resv := (s.lapsed [r]).resv } (s.lapsed [r]).host)
  · rfl

theorem reservation_none {s : State} {id : Nat} {phase : Phase} (h : ∀ r ∈ s.resv.table, r.id = id → r.phase ≠ phase)
    {r : Reservation} (hr : s.reservation id = some r) : r.phase ≠ phase :=
  h r (List.mem_of_find?_eq_some hr) (reservation_id hr)

theorem deadlineOf_idle {s : State} {id : Nat} (h : ∀ r ∈ s.resv.table, r.id = id → r.phase ≠ .running) :
    s.deadlineOf id = s := by
  rw [State.deadlineOf]
  split
  · rename_i r hr
    rw [if_neg (reservation_none h hr)]
  · rfl

theorem hardLimitOf_idle {s : State} {id : Nat} (h : ∀ r ∈ s.resv.table, r.id = id → r.phase ≠ .waiting) :
    s.hardLimitOf id = s := by
  rw [State.hardLimitOf]
  split
  · rename_i r hr
    rw [if_neg (reservation_none h hr)]
  · rfl

/-- Settles O28. -/
theorem deadlineExpiresOrWaits : Obligations.DeadlineExpiresOrWaits := by
  refine ⟨fun id s h => congrArg Host.Outcome.next ?_, fun id r s hon hcom hr hphase hcap => ?_⟩
  · rw [deadlineOf_idle h, ite_self]
  have hexec : exec (.deadline id) s = .next (s.deadlineOf id.toNat) :=
    congrArg Host.Outcome.next (if_pos (active_of_on hon hcom))
  have hdeadline : s.deadlineOf id.toNat =
      if s.ctl.config.confirmMode = .extended ∧ s.pbusy = true then s.startWaiting r else s.expire r := by
    simp only [State.deadlineOf, hr, if_pos hphase]
  refine ⟨fun hmode hbusy => ?_, fun h => ⟨_, hexec, ?_⟩⟩
  · rw [hexec, hdeadline, if_pos ⟨hmode, hbusy⟩, State.startWaiting, reservation_id hr]
    rfl
  · rw [hdeadline, if_neg]
    · exact expire_expiredAs hcap r
    · rintro ⟨hmode, hbusy⟩
      exact h.elim (absurd hmode) fun hb => Bool.false_ne_true (hb.symm.trans hbusy)

/-! ### The release of PBUSY -/

/-- With different ids, taking a reservation out by its id leaves those of other ids. -/
theorem erase_eq_filter {table : List Reservation} (hn : (table.map (·.id)).Nodup) (id : Nat) :
    table.eraseP (·.id == id) = table.filter fun q => q.id != id := by
  induction table with
  | nil => rfl
  | cons x xs ih =>
    obtain ⟨hx, hxs⟩ := List.nodup_cons.1 hn
    by_cases h : x.id = id
    · subst h
      rw [List.eraseP_cons_of_pos (by simp), List.filter_cons, if_neg (by simp), List.filter_eq_self.2]
      intro q hq
      exact bne_iff_ne.2 fun he => hx (List.mem_map.2 ⟨q, hq, he⟩)
    · rw [List.eraseP_cons_of_neg (by simpa using h), List.filter_cons, if_pos (bne_iff_ne.2 h), ih hxs]

/-- Taking several out leaves those of none of their ids. -/
theorem eraseAll_eq_filter (rs : List Reservation) {table : List Reservation} (hn : (table.map (·.id)).Nodup) :
    rs.foldl (fun l r => l.eraseP (·.id == r.id)) table = table.filter fun q => decide (q.id ∉ rs.map (·.id)) := by
  induction rs generalizing table with
  | nil => exact (List.filter_eq_self.2 fun q _ => decide_eq_true List.not_mem_nil).symm
  | cons r rs ih =>
    rw [List.foldl_cons, ih (hn.sublist (List.eraseP_sublist.map _)), erase_eq_filter hn, List.filter_filter]
    congr 1
    funext q
    by_cases h : q.id = r.id <;> simp [h]

/-- The ids of a table tell its reservations apart. -/
theorem eq_of_mem_table {table : List Reservation} (hn : (table.map (·.id)).Nodup) {r q : Reservation} (hr : r ∈ table)
    (hq : q ∈ table) (hid : r.id = q.id) : r = q := by
  obtain ⟨a, b, rfl, ha, hb⟩ := table_split hr hn
  obtain hq | hq := List.mem_append.1 hq
  · exact absurd hid.symm (ha q hq)
  · obtain rfl | hq := List.mem_cons.1 hq
    · rfl
    · exact absurd hid.symm (hb q hq)

/-- When every WAITING reservation has left, the RUNNING ones stay (R62). -/
theorem eraseWaiting_eq {table : List Reservation} (hn : (table.map (·.id)).Nodup) :
    (table.filter (·.phase == .waiting)).foldl (fun l r => l.eraseP (·.id == r.id)) table =
      table.filter (·.phase == .running) := by
  rw [eraseAll_eq_filter _ hn]
  refine List.filter_congr fun q hq => ?_
  have hiff : q.id ∈ (table.filter (·.phase == .waiting)).map (·.id) ↔ q.phase = .waiting := by
    constructor
    · intro h
      obtain ⟨r, hr, he⟩ := List.mem_map.1 h
      obtain ⟨hrt, hw⟩ := List.mem_filter.1 hr
      have heq : r = q := eq_of_mem_table hn hrt hq he
      exact heq ▸ beq_iff_eq.1 hw
    · exact fun h => List.mem_map.2 ⟨q, List.mem_filter.2 ⟨hq, beq_iff_eq.2 h⟩, rfl⟩
  have hphase : ¬ q.phase = .waiting ↔ q.phase = .running := by cases q.phase <;> decide
  exact Bool.eq_iff_iff.2 (decide_eq_true_iff.trans (((not_congr hiff).trans hphase).trans beq_iff_eq.symm))

/-- The expiry of several reservations of the table, one after another: at most the last brings a PARKING station to
PARKED, since before it the table is not empty (R59, R62). -/
theorem expireAll_lapsed (rs : List Reservation) {s : State} (hn : (rs.map (·.id)).Nodup) (hsub : ∀ r ∈ rs, r ∈ s.resv.table)
    (hopen : s.ctl.state = .parking → s.workClosed = false) :
    rs.foldl (fun t r => t.expire r) s = (s.lapsed rs).noticed := by
  induction rs generalizing s with
  | nil =>
    have hnotice : s.notice = s := if_neg fun h => Bool.false_ne_true ((hopen h.1).symm.trans h.2)
    rw [lapsed_nil, List.foldl_nil, State.noticed, hnotice]
  | cons r rs ih =>
    obtain ⟨hr, hrs⟩ := List.nodup_cons.1 hn
    rw [List.foldl_cons, expire_lapsed]
    have hleft : ∀ x ∈ rs, x ∈ (s.lapsed [r]).resv.table := by
      intro x hx
      have hne : x.id ≠ r.id := fun he => hr (List.mem_map.2 ⟨x, hx, he⟩)
      exact (List.mem_eraseP_of_neg (by simpa using hne)).2 (hsub x (List.mem_cons_of_mem _ hx))
    by_cases hclosed : s.ctl.state = .parking ∧ (s.lapsed [r]).workClosed = true
    · have hempty : (s.lapsed [r]).resv.table = [] :=
        List.isEmpty_iff.1 (Bool.and_eq_true_iff.1 hclosed.2).1
      have hnil : rs = [] := List.eq_nil_iff_forall_not_mem.2 fun x hx => List.not_mem_nil (hempty ▸ hleft x hx)
      rw [hnil]
      rfl
    · have hnotice : (s.lapsed [r]).notice = s.lapsed [r] := if_neg hclosed
      have hnoticed : (s.lapsed [r]).noticed = s.lapsed [r] := by rw [State.noticed, hnotice]
      rw [hnoticed, ih hrs hleft fun hp => Bool.eq_false_iff.2 fun hw => hclosed ⟨hp, hw⟩, lapsed_cons]

/-- Settles O29. -/
theorem hardLimitAndPbusyEndWaits : Obligations.HardLimitAndPbusyEndWaits := by
  refine ⟨fun id s h => congrArg Host.Outcome.next ?_, fun id r s hon hcom hr hphase hcap => ?_, fun s => rfl,
    fun s hmode => ?_, fun s hon hcom hmode hn hcap hpark => ?_⟩
  · rw [hardLimitOf_idle h, ite_self]
  · have hlimit : s.hardLimitOf id.toNat = s.expire r := by
      simp only [State.hardLimitOf, hr, if_pos hphase]
    refine ⟨s.expire r, ?_, expire_expiredAs hcap r⟩
    exact congrArg Host.Outcome.next ((if_pos (active_of_on hon hcom)).trans hlimit)
  · have hfalse : ¬ (({ s with pbusy := false } : State).active &&
        ({ s with pbusy := false } : State).ctl.config.confirmMode == .extended) = true := by
      rw [Bool.and_eq_true, beq_iff_eq]
      exact fun h => hmode h.2
    exact congrArg Host.Outcome.next (if_neg hfalse)
  · intro waiting value
    refine ⟨(waiting.flatMap Reservation.grantedItems).foldl (fun t i => printedIn t i.cls i.value) s.resv.totals,
      printedIn_foldl _ _ hcap, ?_⟩
    have hexec : exec .pbusyReleased s = .next ({ s with pbusy := false } : State).releaseWaiting := by
      refine congrArg Host.Outcome.next (if_pos ?_)
      rw [Bool.and_eq_true, beq_iff_eq]
      exact ⟨active_of_on hon hcom, hmode⟩
    have hopen : s.ctl.state = .parking → s.workClosed = false := by
      intro hp
      refine Bool.eq_false_iff.2 fun hw => ?_
      obtain ⟨ht, hstranded⟩ := (workClosed_iff s).1 hw
      obtain ⟨r, hr, hun⟩ := hpark hp ht
      exact absurd (hun.symm.trans (hstranded r hr)) (by decide)
    intro u
    have hall := expireAll_lapsed (s := { s with pbusy := false }) (s.resv.table.filter (·.phase == .waiting))
      (hn.sublist (List.filter_sublist.map _)) (fun r hr => (List.mem_filter.1 hr).1) hopen
    rw [hexec, State.releaseWaiting, hall]
    have hu : State.lapsed (s.resv.table.filter (·.phase == .waiting)) { s with pbusy := false } = u := by
      rw [State.lapsed, eraseWaiting_eq hn]
    rw [hu]
    rfl

end Sys2Proof.Machine
end

section
/-! PROOFS. The transmit queue: placement, attempts and their ends (R102 to R109, R142, R143). -/

namespace Sys2Proof.Machine

/-! ### Placement as a function of the line -/

/-- The settlement unit after a frame left the queue, if one did (R109, R142). -/
def SettlementUnit.told (u : SettlementUnit) : Option Payload → SettlementUnit
  | none => u
  | some q => { u with records := u.records.map (startWait q) }

/-- The line with one more queue drop (R107). -/
def LineController.dropping (l : LineController) : LineController := { l with queueDrops := bump l.queueDrops 1 }

/-- The line after a frame is placed on a full queue, and the frame that is dropped (R107). -/
def LineController.placeFull (l : LineController) (p : Payload) : LineController × Option Payload :=
  match lastWaiting l.tx with
  | some x =>
    if p.kind < x.payload.kind then
      ({ l with tx := insertTx (.fresh p) (eraseLast (fun e => !e.inProgress) l.tx) }.dropping, some x.payload)
    else (l.dropping, some p)
  | none => (l.dropping, some p)

/-- The line after a frame is placed, and the frame that is dropped, if any (R105 to R108). -/
def LineController.place (l : LineController) (p : Payload) : LineController × Option Payload :=
  if l.state = .alone ∧ p.isRoll = false then (l.dropping, some p)
  else if p.isRoll && l.tx.any (fun e => e.payload.isRoll && !e.inProgress) then
    ({ l with tx := replaceRoll p l.tx }, none)
  else if l.tx.length < txPlaces then ({ l with tx := insertTx (.fresh p) l.tx }, none)
  else l.placeFull p

theorem placeFull_line (p : Payload) (s : State) :
    s.placeFull p = { s with line := (s.line.placeFull p).1, settle := s.settle.told (s.line.placeFull p).2 } := by
  unfold State.placeFull LineController.placeFull
  cases lastWaiting s.line.tx with
  | none => rfl
  | some x =>
    by_cases h : p.kind < x.payload.kind
    · simp only [if_pos h]
      rfl
    · simp only [if_neg h]
      rfl

/-- Placement reads the line alone, and changes it and the answer wait of the record whose GIVE it drops (R105 to R109). -/
theorem place_line (p : Payload) (s : State) :
    s.place p = { s with line := (s.line.place p).1, settle := s.settle.told (s.line.place p).2 } := by
  unfold State.place LineController.place
  by_cases h1 : s.line.state = .alone ∧ p.isRoll = false
  · rw [if_pos h1, if_pos h1]
    rfl
  rw [if_neg h1, if_neg h1]
  by_cases h2 : (p.isRoll && s.line.tx.any (fun e => e.payload.isRoll && !e.inProgress)) = true
  · rw [if_pos h2, if_pos h2]
    rfl
  rw [if_neg h2, if_neg h2]
  by_cases h3 : s.line.tx.length < txPlaces
  · rw [if_pos h3, if_pos h3]
    rfl
  rw [if_neg h3, if_neg h3]
  exact placeFull_line p s

/-! ### The rules of placement -/

/-- A frame takes its place behind those of equal or lower identifier (R106). -/
theorem insertTx_split (e : TxEntry) {q : List TxEntry} (h : (q.map (·.payload.kind)).Pairwise (· ≤ ·)) :
    ∃ a b, q = a ++ b ∧ (∀ y ∈ a, y.payload.kind ≤ e.payload.kind) ∧ (∀ y ∈ b, e.payload.kind < y.payload.kind) ∧
      insertTx e q = a ++ e :: b := by
  induction q with
  | nil => exact ⟨[], [], rfl, List.forall_mem_nil _, List.forall_mem_nil _, rfl⟩
  | cons x xs ih =>
    obtain ⟨hx, hxs⟩ := List.pairwise_cons.1 h
    by_cases hle : x.payload.kind ≤ e.payload.kind
    · obtain ⟨a, b, rfl, ha, hb, he⟩ := ih hxs
      exact ⟨x :: a, b, rfl, List.forall_mem_cons.2 ⟨hle, ha⟩, hb, by rw [insertTx, if_pos hle, he]; rfl⟩
    · refine ⟨[], x :: xs, rfl, List.forall_mem_nil _, List.forall_mem_cons.2 ⟨Nat.not_le.1 hle, fun y hy => ?_⟩,
        by rw [insertTx, if_neg hle]; rfl⟩
      exact Nat.lt_of_lt_of_le (Nat.not_le.1 hle) (hx _ (List.mem_map.2 ⟨y, hy, rfl⟩))

/-- A ROLL takes the place of the first that waits (R108). -/
theorem replaceRoll_split (p : Payload) {a b : List TxEntry} {x : TxEntry} (hx : x.payload.isRoll = true)
    (hwait : x.inProgress = false) (ha : ∀ y ∈ a, y.payload.isRoll = true → y.inProgress = true) :
    replaceRoll p (a ++ x :: b) = a ++ .fresh p :: b := by
  induction a with
  | nil => exact if_pos (by rw [hx, hwait]; rfl)
  | cons y ys ih =>
    obtain ⟨hy, hys⟩ := List.forall_mem_cons.1 ha
    have hskip : ¬ (y.payload.isRoll && !y.inProgress) = true := by
      rw [Bool.and_eq_true, Bool.not_eq_true']
      rintro ⟨hr, hp⟩
      exact Bool.false_ne_true (hp.symm.trans (hy hr))
    rw [List.cons_append, replaceRoll, if_neg hskip, ih hys]
    rfl

/-- Behind the last frame that waits all are in progress (R107). -/
theorem lastWaiting_split {a b : List TxEntry} {x : TxEntry} (hwait : x.inProgress = false)
    (hb : ∀ y ∈ b, y.inProgress = true) : lastWaiting (a ++ x :: b) = some x := by
  have hnone : b.filter (fun e => !e.inProgress) = [] := by
    rw [List.filter_eq_nil_iff]
    intro y hy
    rw [hb y hy]
    decide
  rw [lastWaiting, List.filter_append, List.filter_cons, if_pos (by rw [hwait]; rfl), hnone, List.getLast?_append]
  rfl

theorem eraseLast_split {a b : List TxEntry} {x : TxEntry} (hwait : x.inProgress = false)
    (hb : ∀ y ∈ b, y.inProgress = true) : eraseLast (fun e => !e.inProgress) (a ++ x :: b) = a ++ b := by
  rw [eraseLast, List.reverse_append, List.reverse_cons, List.append_assoc, List.singleton_append,
    eraseP_append_cons (fun y hy => by rw [hb y (List.mem_reverse.1 hy)]; rfl) (by rw [hwait]; rfl), List.reverse_append,
    List.reverse_reverse, List.reverse_reverse]

theorem lastWaiting_none {q : List TxEntry} (h : ∀ y ∈ q, y.inProgress = true) : lastWaiting q = none := by
  rw [lastWaiting, List.filter_eq_nil_iff.2]
  · rfl
  · intro y hy
    rw [h y hy]
    decide

theorem isRoll_kind {p : Payload} (h : p.isRoll = true) : p.kind = 12 := by
  cases p with
  | roll c => rfl
  | _ => exact nomatch h

/-- A full queue drops a ROLL that finds none waiting, and whatever finds all in progress (R107). -/
theorem placeFull_drops {l : LineController} {p : Payload} (h : p.isRoll = true ∨ ∀ y ∈ l.tx, y.inProgress = true) :
    l.placeFull p = (l.dropping, some p) := by
  unfold LineController.placeFull
  cases hx : lastWaiting l.tx with
  | none => rfl
  | some x =>
    rcases h with hroll | hall
    · exact if_neg (by rw [isRoll_kind hroll]; exact Nat.not_lt.2 (kind_le _))
    · exact nomatch hx.symm.trans (lastWaiting_none hall)

/-- The wait of a record starts with its own GIVE, while it is UNSETTLED (R142). -/
theorem isGiveOf_iff (p : Payload) (k : Station) (serial : BitVec 16) :
    p.isGiveOf k serial = true ↔ ∃ dest body, p = .give dest serial body ∧ dest.toNat = k.val := by
  constructor
  · intro h
    cases p with
    | give d n b =>
      obtain ⟨hd, hn⟩ := Bool.and_eq_true_iff.1 h
      exact ⟨d, b, by rw [beq_iff_eq.1 hn], beq_iff_eq.1 hd⟩
    | _ => exact nomatch h
  · rintro ⟨d, b, rfl, hd⟩
    exact Bool.and_eq_true_iff.2 ⟨beq_iff_eq.2 hd, beq_self_eq_true _⟩

/-- Settles O37: the four rules of R105 to R108 in their order, each on the queue split at its frame. -/
theorem placementFollowsTheQueueRules : Obligations.PlacementFollowsTheQueueRules := by
  refine ⟨fun p s hsorted => ?_, fun p r => ⟨fun hgive hun => ?_, fun h => ?_⟩⟩
  · intro dropped
    have hreplace : ∀ {q : List TxEntry}, (∀ y ∈ q, y.payload.isRoll = true → y.inProgress = true) →
        q.any (fun e => e.payload.isRoll && !e.inProgress) = false := by
      intro q hq
      rw [List.any_eq_false]
      intro y hy he
      obtain ⟨hr, hw⟩ := Bool.and_eq_true_iff.1 he
      rw [hq y hy hr] at hw
      exact nomatch hw
    refine ⟨fun halone hroll => ?_, fun a x b htx hp hx hwait ha => ?_, fun hup hrolls hroom => ?_,
      fun a x b htx hup hroll hfull hwait hb => ?_, fun hfull hcase => ?_⟩
    · rw [place_line, LineController.place, if_pos ⟨halone, hroll⟩]
      rfl
    · rw [place_line, LineController.place, if_neg (by rw [hp]; exact fun h => nomatch h.2), if_pos, htx,
        replaceRoll_split p hx hwait ha]
      · rfl
      · rw [hp, htx, Bool.true_and, List.any_append, List.any_cons, hx, hwait]
        simp
    · obtain ⟨a, b, hab, ha, hb, hins⟩ := insertTx_split (.fresh p) hsorted
      refine ⟨a, b, hab, ha, hb, ?_⟩
      rw [place_line, LineController.place, if_neg, if_neg, if_pos (by exact hroom), hins]
      · rfl
      · rw [Bool.and_eq_true]
        rintro ⟨hr, hany⟩
        exact Bool.false_ne_true ((hreplace (hrolls hr)).symm.trans hany)
      · rintro ⟨halone, hr⟩
        exact hup.elim (fun h => nomatch halone.symm.trans h) fun h => Bool.false_ne_true (hr.symm.trans h)
    · have hplace : s.line.place p = s.line.placeFull p := by
        rw [LineController.place, if_neg (by rw [hup]; exact fun h => nomatch h.1), if_neg (by rw [hroll]; exact Bool.false_ne_true),
          if_neg (by exact Nat.not_lt.2 hfull)]
      rw [place_line, hplace, LineController.placeFull, htx, lastWaiting_split hwait hb, eraseLast_split hwait hb]
      have hsub : ((a ++ b).map (·.payload.kind)).Pairwise (· ≤ ·) := by
        rw [htx] at hsorted
        exact hsorted.sublist (((List.Sublist.refl a).append (List.sublist_cons_self x b)).map _)
      split
      · rename_i hlt
        obtain ⟨c, d, hcd, hc, hd, hins⟩ := insertTx_split (.fresh p) hsub
        refine ⟨c, d, hcd, hc, hd, ?_⟩
        simp only [if_pos hlt, hins]
        rfl
      · rename_i hlt
        simp only [if_neg hlt, ← htx]
        rfl
    · have hdrop : s.line.place p = (s.line.dropping, some p) := by
        rw [LineController.place]
        split
        · rfl
        rw [if_neg, if_neg (by exact Nat.not_lt.2 hfull)]
        · exact placeFull_drops (hcase.imp_left And.left)
        · rw [Bool.and_eq_true, hreplace (hcase.elim And.right fun h y hy _ => h y hy)]
          exact fun h => nomatch h.2
      rw [place_line, hdrop]
      rfl
  · exact if_pos (Bool.and_eq_true_iff.2 ⟨(isGiveOf_iff p _ _).2 hgive, beq_iff_eq.2 hun⟩)
  · refine if_neg fun hb => ?_
    obtain ⟨hgive, hun⟩ := Bool.and_eq_true_iff.1 hb
    exact h.elim (fun hn => hn ((isGiveOf_iff p _ _).1 hgive)) fun hs => nomatch (beq_iff_eq.1 hun).symm.trans hs

/-! ### Attempts -/

/-- With run count 0 a return to UP changes the line state alone (R105). -/
theorem returnToUp_of_zero {s : State} (h : s.line.runCount = 0) :
    s.returnToUp = { s with line := { s.line with state := .up } } := by
  have hcount : (if s.line.state = .alone then 0 else s.line.runCount) = s.line.runCount := by rw [h, ite_self]
  rw [returnToUp_eq, hcount]

section
variable {s : State} {a b : List TxEntry} {e : TxEntry} (htx : s.line.tx = a ++ e :: b) (he : e.inProgress = true)
  (ha : ∀ y ∈ a, y.inProgress = false)
include htx he ha

theorem inProgress_split : s.line.inProgress = some e := by
  have hnone : a.find? (·.inProgress) = none := by
    rw [List.find?_eq_none]
    intro y hy
    rw [ha y hy]
    exact Bool.false_ne_true
  rw [LineController.inProgress, htx, List.find?_append, hnone, List.find?_cons_of_pos he]
  rfl

theorem removeInProgress_split : s.removeInProgress = { s with line := { s.line with tx := a ++ b } } := by
  have hrest : s.line.tx.eraseP (·.inProgress) = a ++ b := by rw [htx, eraseP_append_cons ha he]
  rw [← hrest]
  rfl

omit htx in
theorem updateInProgress_split (f : TxEntry → TxEntry) : updateInProgress f (a ++ e :: b) = a ++ f e :: b := by
  induction a with
  | nil => exact if_pos he
  | cons y ys ih =>
    obtain ⟨hy, hys⟩ := List.forall_mem_cons.1 ha
    rw [List.cons_append, updateInProgress, if_neg (by rw [hy]; exact Bool.false_ne_true), ih hys]
    rfl

theorem loseArbitration_split :
    s.loseArbitration = { s with line := { s.line with
      tx := if e.cancelled then a ++ b else a ++ { e with inProgress := false } :: b } } := by
  simp only [State.loseArbitration, inProgress_split htx he ha]
  split
  · rw [removeInProgress_split htx he ha]
  · rw [← updateInProgress_split he ha fun x => { x with inProgress := false }, ← htx]
    rfl

theorem attemptDrop_split (p : Payload) :
    s.attemptDrop p = { s with
      line := { s.line with tx := a ++ b, attemptDrops := min (s.line.attemptDrops + 1) 65535 },
      settle := { s.settle with records := s.settle.records.map (startWait p) } } := by
  rw [State.attemptDrop, removeInProgress_split htx he ha]
  rfl

theorem acknowledge_split :
    s.acknowledge = { s with
      line := { s.line with tx := a ++ b, runCount := 0, state := if e.payload.isRoll then .up else s.line.state },
      settle := { s.settle with records := s.settle.records.map (startWait e.payload) } } := by
  simp only [State.acknowledge, inProgress_split htx he ha, removeInProgress_split htx he ha, frameLeft_eq]
  cases e.payload.isRoll with
  | false => rfl
  | true =>
    rw [if_pos rfl, returnToUp_of_zero rfl]
    rfl

/-- A failed attempt of a GIVE its record no longer needs (R143). -/
theorem failAttempt_cancelled (hc : e.cancelled = true) :
    s.failAttempt = { s with line := { s.line with tx := a ++ b } } := by
  simp only [State.failAttempt, inProgress_split htx he ha, if_pos hc, removeInProgress_split htx he ha]

theorem failAttempt_alone (hc : e.cancelled = false) (halone : s.line.state = .alone) :
    s.failAttempt = s.attemptDrop e.payload := by
  simp only [State.failAttempt, inProgress_split htx he ha, hc, if_pos halone]
  rfl

theorem failAttempt_again (hc : e.cancelled = false) (hup : s.line.state = .up) (hagain : e.attempts + 1 < 16) :
    s.failAttempt = { s with line := { s.line with
      tx := a ++ { e with attempts := e.attempts + 1, inProgress := false } :: b } } := by
  have hnot : ¬ lastAttempt ≤ e.attempts + 1 := Nat.not_le.2 hagain
  rw [← updateInProgress_split he ha fun x => { x with attempts := x.attempts + 1, inProgress := false }, ← htx]
  have hnal : ¬ s.line.state = .alone := fun h => nomatch h.symm.trans hup
  simp only [State.failAttempt, inProgress_split htx he ha, hc, if_neg hnal, if_neg hnot]
  rfl

theorem failAttempt_last (hc : e.cancelled = false) (hup : s.line.state = .up) (hlast : e.attempts + 1 = 16) :
    s.failAttempt = (s.attemptDrop e.payload).countRun := by
  have hle : lastAttempt ≤ e.attempts + 1 := Nat.le_of_eq hlast.symm
  have hnal : ¬ s.line.state = .alone := fun h => nomatch h.symm.trans hup
  simp only [State.failAttempt, inProgress_split htx he ha, hc, if_neg hnal, if_pos hle]
  rfl

end

/-! ### Entry to ALONE -/

theorem frameLeft_foldl (ps : List Payload) (s : State) :
    ps.foldl (fun u p => u.frameLeft p) s = { s with settle := { s.settle with
      records := s.settle.records.map fun r => ps.foldl (fun q p => startWait p q) r } } := by
  induction ps generalizing s with
  | nil => rw [List.foldl_nil]; simp only [List.foldl_nil, List.map_id']
  | cons p ps ih =>
    rw [List.foldl_cons, ih, frameLeft_eq]
    simp only [List.map_map, Function.comp_def, List.foldl_cons]

/-- The wait of an UNSETTLED record starts when one of the frames that left is its GIVE (R109, R142). -/
theorem startWait_foldl (ps : List Payload) (r : OutRecord) :
    ps.foldl (fun q p => startWait p q) r =
      if r.state = .unsettled ∧ ps.any (·.isGiveOf r.receiver r.serial) = true then { r with wait := .running 500 } else r := by
  induction ps generalizing r with
  | nil => exact (if_neg fun h => Bool.false_ne_true h.2).symm
  | cons p ps ih =>
    rw [List.foldl_cons, ih, List.any_cons]
    by_cases hp : p.isGiveOf r.receiver r.serial = true ∧ r.state = .unsettled
    · have hstart : startWait p r = { r with wait := .running 500 } :=
        if_pos (Bool.and_eq_true_iff.2 ⟨hp.1, beq_iff_eq.2 hp.2⟩)
      rw [hstart, hp.1, if_pos (And.intro hp.2 (Bool.true_or _))]
      exact ite_self _
    · have hstart : startWait p r = r :=
        if_neg fun h => hp ⟨(Bool.and_eq_true_iff.1 h).1, beq_iff_eq.1 (Bool.and_eq_true_iff.1 h).2⟩
      rw [hstart]
      refine ite_congr (propext ?_) (fun _ => rfl) fun _ => rfl
      rw [Bool.or_eq_true]
      exact and_congr_right fun hun => (or_iff_right fun hg => hp ⟨hg, hun⟩).symm

theorem enterAlone_eq (s : State) :
    s.enterAlone = { s with
      line := { s.line with
        state := .alone, tx := [], queueDrops := min (s.line.queueDrops + s.line.tx.length) 65535 },
      host := { s.host with alerts := { s.host.alerts with lineAlone := true } },
      settle := { s.settle with records := s.settle.records.map fun r =>
        if r.state = .unsettled ∧ (s.line.tx.map (·.payload)).any (·.isGiveOf r.receiver r.serial) = true then
          { r with wait := .running 500 } else r } } := by
  rw [State.enterAlone, frameLeft_foldl]
  simp only [startWait_foldl]
  rfl

/-- Settles O38. -/
theorem attemptsBeginAndLoseArbitration : Obligations.AttemptsBeginAndLoseArbitration := by
  intro s hon hcom
  refine ⟨fun e rest htx hfree => ?_, fun a e b htx he ha => ?_⟩
  · have hnone : s.line.inProgress = none := by
      rw [LineController.inProgress, List.find?_eq_none]
      intro y hy
      rw [hfree y hy]
      exact Bool.false_ne_true
    refine congrArg Host.Outcome.next ((if_pos (active_of_on hon hcom)).trans ?_)
    have hmark : markFront s.line.tx = { e with inProgress := true } :: rest := by rw [htx]; rfl
    rw [State.startAttempt, hnone, ← hmark]
    rfl
  · exact congrArg Host.Outcome.next ((if_pos (active_of_on hon hcom)).trans (loseArbitration_split htx he ha))

/-- The run count rises, and below 8 nothing else changes (R103). -/
theorem countRun_below {s : State} (h : s.line.runCount < 7) :
    s.countRun = { s with line := { s.line with runCount := s.line.runCount + 1 } } := by
  have hnot : ¬ 8 ≤ s.line.runCount + 1 := by omega
  exact if_neg hnot

theorem countRun_eighth {s : State} (h : s.line.runCount = 7) :
    s.countRun = State.enterAlone { s with line := { s.line with runCount := 8 } } := by
  have hle : 8 ≤ s.line.runCount + 1 := by omega
  have hcount : (8 : Nat) = s.line.runCount + 1 := by omega
  rw [hcount]
  exact if_pos hle

/-- Settles O39. -/
theorem attemptsEndAcknowledgedOrFailed : Obligations.AttemptsEndAcknowledgedOrFailed := by
  intro a b e s hon hcom htx he ha
  have hactive := active_of_on hon hcom
  have hfail : ∀ t, s.failAttempt = t → exec .attemptFailed s = .next t := fun t h =>
    congrArg Host.Outcome.next ((if_pos hactive).trans h)
  refine ⟨congrArg Host.Outcome.next ((if_pos hactive).trans (acknowledge_split htx he ha)),
    fun hc => hfail _ (failAttempt_cancelled htx he ha hc), fun hc halone => hfail _ ?_,
    fun hc hup hagain => hfail _ (failAttempt_again htx he ha hc hup hagain), fun hc hup hlast hrun => hfail _ ?_,
    fun hc hup hlast hrun => hfail _ ?_⟩
  · rw [failAttempt_alone htx he ha hc halone, attemptDrop_split htx he ha]
  · rw [failAttempt_last htx he ha hc hup hlast, attemptDrop_split htx he ha, countRun_below (by exact hrun)]
  · rw [failAttempt_last htx he ha hc hup hlast, attemptDrop_split htx he ha, countRun_eighth (by exact hrun), enterAlone_eq]
    have hrecords : ∀ r : OutRecord,
        (if (startWait e.payload r).state = .unsettled ∧ ((a ++ b).map (·.payload)).any
            (·.isGiveOf (startWait e.payload r).receiver (startWait e.payload r).serial) = true then
          { startWait e.payload r with wait := .running 500 } else startWait e.payload r) =
        if r.state = .unsettled ∧ (e :: (a ++ b)).any (·.payload.isGiveOf r.receiver r.serial) = true then
          { r with wait := .running 500 } else r := by
      intro r
      have h := startWait_foldl (e.payload :: (a ++ b).map (·.payload)) r
      rw [List.foldl_cons, startWait_foldl, ← List.map_cons (f := TxEntry.payload)] at h
      refine h.trans ?_
      rw [List.any_map]
      rfl
    simp only [List.map_map, Function.comp_def, hrecords]

end Sys2Proof.Machine
end

section
/-! PROOFS. Arrival, the taking of the front frame, and the peer table (R110 to R119). -/

namespace Sys2Proof.Machine

/-! ### Frames read from bytes -/

theorem natOfBytes_lt (bs : List Byte) : natOfBytes bs < 256 ^ bs.length := by
  induction bs with
  | nil => exact Nat.one_pos
  | cons b bs ih =>
    have hb := b.isLt
    rw [natOfBytes, List.foldl_cons, natOfBytes_foldl, List.length_cons, Nat.pow_succ, Nat.mul_zero, Nat.zero_add]
    have := Nat.mul_le_mul_left (256 ^ bs.length) (show b.toNat ≤ 255 by omega)
    omega

/-- Bytes are the number they spell, laid out (R191). -/
theorem beBytes_natOfBytes (bs : List Byte) : beBytes bs.length (natOfBytes bs) = bs := by
  induction bs with
  | nil => rfl
  | cons b bs ih =>
    have hval : natOfBytes (b :: bs) = 256 ^ bs.length * b.toNat + natOfBytes bs := by
      rw [natOfBytes, List.foldl_cons, natOfBytes_foldl, Nat.mul_zero, Nat.zero_add]
    have hpos : 0 < 256 ^ bs.length := Nat.pow_pos (by decide)
    have hlow : ∀ k m, beBytes k m = beBytes k (m % 256 ^ k) := by
      intro k
      induction k with
      | zero => exact fun _ => rfl
      | succ k ihk =>
        intro m
        have h1 : m % 256 ^ (k + 1) % 256 ^ k = m % 256 ^ k := Nat.mod_mod_of_dvd m (Nat.pow_dvd_pow 256 k.le_succ)
        have h2 : m % 256 ^ (k + 1) / 256 ^ k = m / 256 ^ k % 256 := by
          rw [Nat.pow_succ, Nat.mod_mul_right_div_self]
        have h3 : BitVec.ofNat 8 (m / 256 ^ k % 256) = BitVec.ofNat 8 (m / 256 ^ k) := by
          apply BitVec.eq_of_toNat_eq
          simp
        rw [beBytes, beBytes, h2, h3, ihk m, ihk (m % 256 ^ (k + 1)), h1]
    rw [List.length_cons, beBytes, hval, hlow, Nat.mul_add_mod, Nat.mod_eq_of_lt (natOfBytes_lt bs), ih,
      Nat.mul_add_div hpos, Nat.div_eq_of_lt (natOfBytes_lt bs), Nat.add_zero, BitVec.ofNat_toNat, BitVec.setWidth_eq]

theorem serialBytes (a b : Byte) : beBytes 2 (BitVec.ofNat 16 (natOfBytes [a, b])).toNat = [a, b] := by
  rw [BitVec.toNat_ofNat, Nat.mod_eq_of_lt (Nat.lt_of_lt_of_le (natOfBytes_lt [a, b]) (show 256 ^ 2 ≤ 2 ^ 16 by decide))]
  exact beBytes_natOfBytes [a, b]

theorem wordBytes (a b c d : Byte) : beBytes 4 (BitVec.ofNat 32 (natOfBytes [a, b, c, d])).toNat = [a, b, c, d] := by
  rw [BitVec.toNat_ofNat, Nat.mod_eq_of_lt (Nat.lt_of_lt_of_le (natOfBytes_lt [a, b, c, d]) (show 256 ^ 4 ≤ 2 ^ 32 by decide))]
  exact beBytes_natOfBytes [a, b, c, d]

theorem announcedState_eq {n : Nat} (h1 : 1 ≤ n) (h3 : n ≤ 3) : ∃ x, announcedState n = some x ∧ x.code.toNat = n := by
  obtain rfl | rfl | rfl : n = 1 ∨ n = 2 ∨ n = 3 := by omega
  · exact ⟨.active, rfl, rfl⟩
  · exact ⟨.parking, rfl, rfl⟩
  · exact ⟨.parked, rfl, rfl⟩

theorem announcedStanding_eq {n : Nat} (h3 : n ≤ 3) : ∃ x, announcedStanding n = some x ∧ x.code.toNat = n := by
  obtain rfl | rfl | rfl | rfl : n = 0 ∨ n = 1 ∨ n = 2 ∨ n = 3 := by omega
  · exact ⟨.empty, rfl, rfl⟩
  · exact ⟨.low, rfl, rfl⟩
  · exact ⟨.normal, rfl, rfl⟩
  · exact ⟨.surplus, rfl, rfl⟩

theorem announcedState_none {n : Nat} (h : ¬(1 ≤ n ∧ n ≤ 3)) : announcedState n = none := by
  rw [announcedState, if_neg (by omega), if_neg (by omega), if_neg (by omega)]

theorem announcedStanding_none {n : Nat} (h : ¬ n ≤ 3) : announcedStanding n = none := by
  rw [announcedStanding, if_neg (by omega), if_neg (by omega), if_neg (by omega), if_neg (by omega)]

/-- The first byte of a ROLL is its state code and its can-give flag (R191). -/
theorem rollByte (b : Byte) : BitVec.ofNat 8 (b.toNat % 128 + if b.getLsbD 7 then 128 else 0) = b := by
  revert b
  decide

/-- The top bit of a byte. -/
theorem top_bit (b : Byte) : b.getLsbD 7 = true ∨ b.getLsbD 7 = false := by
  cases b.getLsbD 7
  · exact .inr rfl
  · exact .inl rfl

/-- What R191 admits of a kind code and its data: the length of the kind, and for a ROLL the codes it announces. -/
def admits (kind : Nat) (data : List Byte) : Prop :=
  (kind, data.length) ∈ kindLengths ∧
    (kind = 12 → 1 ≤ (data.getD 0 0).toNat % 128 ∧ (data.getD 0 0).toNat % 128 ≤ 3 ∧ (data.getD 1 0).toNat ≤ 3)

/-- The data spell a payload of the kind, which reads back as them; of a GIVE its kind byte is read in its top bit and its
low four. -/
def readsBack (kind : Nat) (data : List Byte) : Prop :=
  ∃ p, parsePayload kind data = some p ∧ p.kind = kind ∧ (kind ≠ 1 → p.data = data) ∧
    (kind = 1 → p.data.take 3 = data.take 3 ∧ p.data.drop 4 = data.drop 4 ∧
      (p.data.getD 3 0).toNat = if (data.getD 3 0).getLsbD 7 then 128 + (data.getD 3 0).toNat % 16 else 0)

theorem readsBack_of_data {kind : Nat} {data : List Byte} {p : Payload} (hparse : parsePayload kind data = some p)
    (hkind : p.kind = kind) (hne : kind ≠ 1) (hdata : p.data = data) : readsBack kind data :=
  ⟨p, hparse, hkind, fun _ => hdata, fun h => absurd h hne⟩

/-- An answer or a QUERY: the addressed station and a serial. -/
theorem readsBack_serial (mk : Byte → BitVec 16 → Payload) {kind : Nat} {data : List Byte} (hlen : data.length = 3)
    (hparse : ∀ d n1 n0, parsePayload kind [d, n1, n0] = some (mk d (BitVec.ofNat 16 (natOfBytes [n1, n0]))))
    (hkind : ∀ d n, (mk d n).kind = kind) (hne : kind ≠ 1) (hdata : ∀ d n, (mk d n).data = d :: beBytes 2 n.toNat) :
    readsBack kind data := by
  match data, hlen with
  | [d, n1, n0], _ => exact readsBack_of_data (hparse d n1 n0) (hkind _ _) hne ((hdata _ _).trans (by rw [serialBytes]))

/-- A TAKE or an OFFER: the addressed station and an amount. -/
theorem readsBack_word (mk : Byte → BitVec 32 → Payload) {kind : Nat} {data : List Byte} (hlen : data.length = 5)
    (hparse : ∀ d a b c e, parsePayload kind [d, a, b, c, e] = some (mk d (BitVec.ofNat 32 (natOfBytes [a, b, c, e]))))
    (hkind : ∀ d n, (mk d n).kind = kind) (hne : kind ≠ 1) (hdata : ∀ d n, (mk d n).data = d :: beBytes 4 n.toNat) :
    readsBack kind data := by
  match data, hlen with
  | [d, a, b, c, e], _ =>
    exact readsBack_of_data (hparse d a b c e) (hkind _ _) hne ((hdata _ _).trans (by rw [wordBytes]))

theorem readsBack_give {data : List Byte} (hlen : data.length = 8) : readsBack 1 data := by
  match data, hlen with
  | [d, n1, n0, k, a, b, c, e], _ =>
    rcases top_bit k with hk | hk
    · have hlow : (BitVec.ofNat 8 (128 + (k.setWidth 4).toNat)).toNat = 128 + k.toNat % 16 := by
        rw [BitVec.toNat_setWidth, BitVec.toNat_ofNat]
        exact Nat.mod_eq_of_lt (by omega)
      refine ⟨_, if_pos hk, rfl, fun h => absurd rfl h, fun _ => ⟨?_, ?_, ?_⟩⟩
      · exact congrArg (d :: ·) (serialBytes n1 n0)
      · show beBytes 2 _ ++ beBytes 2 _ = _
        rw [serialBytes, serialBytes]
        rfl
      · exact hlow.trans (if_pos hk).symm
    · refine ⟨_, if_neg (by rw [hk]; exact Bool.false_ne_true), rfl, fun h => absurd rfl h, fun _ => ⟨?_, ?_, ?_⟩⟩
      · exact congrArg (d :: ·) (serialBytes n1 n0)
      · exact wordBytes a b c e
      · exact (if_neg (by show ¬ k.getLsbD 7 = true; rw [hk]; exact Bool.false_ne_true)).symm

theorem readsBack_roll {data : List Byte} (hlen : data.length = 8) (h1 : 1 ≤ (data.getD 0 0).toNat % 128)
    (h3 : (data.getD 0 0).toNat % 128 ≤ 3) (hs : (data.getD 1 0).toNat ≤ 3) : readsBack 12 data := by
  match data, hlen with
  | [st, sd, a, b, c, e, period, generation], _ =>
    obtain ⟨x, hx, hxcode⟩ := announcedState_eq h1 h3
    obtain ⟨y, hy, hycode⟩ := announcedStanding_eq hs
    refine readsBack_of_data (p := .roll ⟨x, y, BitVec.ofNat 32 (natOfBytes [a, b, c, e]), period, generation, st.getLsbD 7⟩) ?_ rfl (by decide) ?_
    · simp only [List.getD_cons_zero, List.getD_cons_succ] at hx hy
      simp only [parsePayload, hx, hy]
    · have hfirst : BitVec.ofNat 8 (x.code.toNat + if st.getLsbD 7 then 128 else 0) = st := by
        rw [hxcode]
        exact rollByte st
      have hsecond : y.code = sd := BitVec.eq_of_toNat_eq hycode
      show BitVec.ofNat 8 (x.code.toNat + if st.getLsbD 7 then 128 else 0) :: y.code :: beBytes 4 _ ++ _ = _
      rw [hfirst, hsecond, wordBytes]
      rfl

/-- Bytes that R191 admits spell a payload of their kind, which reads back as them. -/
theorem readsBack_of_admits {kind : Nat} {data : List Byte} (h : admits kind data) : readsBack kind data := by
  obtain ⟨hmem, hroll⟩ := h
  simp only [kindLengths, List.mem_cons, Prod.mk.injEq, List.not_mem_nil, or_false] at hmem
  rcases hmem with ⟨rfl, hlen⟩ | ⟨rfl, hlen⟩ | ⟨rfl, hlen⟩ | ⟨rfl, hlen⟩ | ⟨rfl, hlen⟩ | ⟨rfl, hlen⟩ | ⟨rfl, hlen⟩ |
    ⟨rfl, hlen⟩ | ⟨rfl, hlen⟩ | ⟨rfl, hlen⟩ | ⟨rfl, hlen⟩ | ⟨rfl, hlen⟩
  · exact readsBack_give hlen
  · exact readsBack_serial (.reply .got) hlen (fun _ _ _ => rfl) (fun _ _ => rfl) (by decide) fun _ _ => rfl
  · exact readsBack_serial (.reply .void) hlen (fun _ _ _ => rfl) (fun _ _ => rfl) (by decide) fun _ _ => rfl
  · exact readsBack_serial (.reply .defer) hlen (fun _ _ _ => rfl) (fun _ _ => rfl) (by decide) fun _ _ => rfl
  · exact readsBack_serial (.reply .haveIt) hlen (fun _ _ _ => rfl) (fun _ _ => rfl) (by decide) fun _ _ => rfl
  · exact readsBack_serial (.reply .nohave) hlen (fun _ _ _ => rfl) (fun _ _ => rfl) (by decide) fun _ _ => rfl
  · exact readsBack_serial .query hlen (fun _ _ _ => rfl) (fun _ _ => rfl) (by decide) fun _ _ => rfl
  · exact readsBack_word .take hlen (fun _ _ _ _ _ => rfl) (fun _ _ => rfl) (by decide) fun _ _ => rfl
  · match data, hlen with
    | [d], _ => exact readsBack_of_data (p := .noneLeft d) rfl rfl (by decide) rfl
  · exact readsBack_word .offer hlen (fun _ _ _ _ _ => rfl) (fun _ _ => rfl) (by decide) fun _ _ => rfl
  · match data, hlen with
    | [a, b, c, e], _ =>
      exact readsBack_of_data (p := .call (BitVec.ofNat 32 (natOfBytes [a, b, c, e]))) rfl rfl (by decide)
        (wordBytes a b c e)
  · obtain ⟨h1, h3, hs⟩ := hroll rfl
    exact readsBack_roll hlen h1 h3 hs

/-- Data outside the layouts of R191 spell nothing (test 1 of R110). -/
theorem admits_of_parsePayload {kind : Nat} {data : List Byte} {p : Payload} (h : parsePayload kind data = some p) :
    admits kind data := by
  have hother : ∀ {k n : Nat}, k ≠ 12 → (k, n) ∈ kindLengths → data.length = n → kind = k → admits kind data := by
    rintro k n hne hmem rfl rfl
    exact ⟨hmem, fun h => absurd h hne⟩
  delta parsePayload at h
  dsimp only at h
  split at h
  case h_12 st sd a b c e period generation =>
    split at h
    · rename_i x y hx hy
      refine ⟨by simp [kindLengths], fun _ => ?_⟩
      have h1 : 1 ≤ st.toNat % 128 ∧ st.toNat % 128 ≤ 3 := by
        refine Decidable.byContradiction fun hn => ?_
        exact nomatch hx.symm.trans (announcedState_none hn)
      have h2 : sd.toNat ≤ 3 := by
        refine Decidable.byContradiction fun hn => ?_
        exact nomatch hy.symm.trans (announcedStanding_none hn)
      exact ⟨h1.1, h1.2, h2⟩
    · exact nomatch h
  case h_13 => exact nomatch h
  all_goals exact hother (by decide) (by simp [kindLengths]) rfl rfl

/-- With different keys a lookup finds what is listed. -/
theorem lookup_iff_mem {l : List (Nat × Nat)} (hn : (l.map Prod.fst).Nodup) (k n : Nat) :
    l.lookup k = some n ↔ (k, n) ∈ l := by
  induction l with
  | nil => exact iff_of_false (fun h => nomatch h) List.not_mem_nil
  | cons x xs ih =>
    obtain ⟨a, b⟩ := x
    obtain ⟨ha, hxs⟩ := List.nodup_cons.1 hn
    rw [List.lookup_cons, List.mem_cons, Prod.mk.injEq]
    by_cases h : k = a
    · subst h
      have hno : (k, n) ∉ xs := fun hmem => ha (List.mem_map.2 ⟨_, hmem, rfl⟩)
      simp [hno, eq_comm]
    · rw [beq_eq_false_iff_ne.2 h, ← ih hxs]
      simp [h]

/-- Test 1 of R110, of the kind and data of an identifier. -/
theorem frameAdmitted_iff (identifier : BitVec 11) (data : List Byte) :
    frameAdmitted identifier data = true ↔ identifier.toNat % 16 ≠ 0 ∧ admits (identifier.toNat / 16) data := by
  have hlookup : ∀ k n : Nat, kindLengths.lookup k = some n ↔ (k, n) ∈ kindLengths := by
    exact fun k n => lookup_iff_mem (by decide) k n
  simp only [frameAdmitted, Bool.and_eq_true, bne_iff_ne, beq_iff_eq, hlookup, admits, Bool.or_eq_true, decide_eq_true_eq,
    and_assoc, Decidable.imp_iff_not_or, ne_eq]

theorem parseFrame_admitted {identifier : BitVec 11} {data : List Byte} (h : frameAdmitted identifier data = true) :
    ∃ f, parseFrame identifier data = some f ∧ f.sender.val = identifier.toNat % 16 ∧
      f.payload.kind = identifier.toNat / 16 ∧ (f.payload.kind ≠ 1 → f.payload.data = data) ∧
      (f.payload.kind = 1 → f.payload.data.take 3 = data.take 3 ∧ f.payload.data.drop 4 = data.drop 4 ∧
        (f.payload.data.getD 3 0).toNat =
          if (data.getD 3 0).getLsbD 7 then 128 + (data.getD 3 0).toNat % 16 else 0) := by
  obtain ⟨hsender, hadmits⟩ := (frameAdmitted_iff _ _).1 h
  obtain ⟨p, hparse, hkind, hdata, hgive⟩ := readsBack_of_admits hadmits
  have hrange : 1 ≤ identifier.toNat % 16 ∧ identifier.toNat % 16 ≤ 15 := by omega
  refine ⟨{ sender := ⟨identifier.toNat % 16, hrange⟩, payload := p }, ?_, rfl, hkind, ?_, ?_⟩
  · rw [parseFrame, stationOf, dif_pos hrange, hparse]
  · rw [hkind]
    exact hdata
  · rw [hkind]
    exact hgive

theorem parseFrame_refused {identifier : BitVec 11} {data : List Byte} (h : frameAdmitted identifier data = false) :
    parseFrame identifier data = none := by
  rw [parseFrame]
  split
  · rename_i sender payload hsender hpayload
    refine absurd ((frameAdmitted_iff _ _).2 ⟨fun h0 => ?_, admits_of_parsePayload hpayload⟩) (by rw [h]; decide)
    rw [h0] at hsender
    exact nomatch hsender
  · rfl

/-! ### Arrival -/

theorem ownNumber_val_iff (s : State) (k : Station) : s.ownNumber k.val = true ↔ s.ctl.config.station = some k := by
  rw [ownNumber_iff]
  exact Option.map_inj_right (o' := some k) fun _ _ => Subtype.ext

/-- Settles O40. -/
theorem arrivalIsJudgedInOrder : Obligations.ArrivalIsJudgedInOrder := by
  intro identifier data s hon hcom
  have hexec : exec (.frameArrival identifier data) s = .next (s.arrive identifier data) :=
    congrArg Host.Outcome.next (if_pos (active_of_on hon hcom))
  refine ⟨fun h => ?_, fun h => ?_⟩
  · rw [hexec, State.arrive, parseFrame_refused h]
  obtain ⟨f, hf, hsender, hkind, hdata, hgive⟩ := parseFrame_admitted h
  refine ⟨f, s.arrive identifier data, hf, hsender, hkind, hdata, hgive, hexec, ?_⟩
  rw [State.arrive, hf, returnToUp_eq]
  dsimp only
  by_cases hown : s.ctl.config.station = some f.sender
  · rw [if_pos hown, if_pos ((ownNumber_val_iff s f.sender).2 hown)]
    exact ⟨rfl, rfl, ⟨rfl, rfl, rfl⟩, rfl⟩
  rw [if_neg hown, if_neg (mt (ownNumber_val_iff s f.sender).1 hown)]
  by_cases hroom : s.line.rx.length < 16
  · rw [if_pos hroom, if_pos (by exact hroom)]
    exact ⟨rfl, rfl, ⟨rfl, rfl, rfl⟩, rfl⟩
  · rw [if_neg hroom, if_neg (by exact hroom)]
    exact ⟨rfl, rfl, ⟨rfl, rfl, rfl⟩, rfl⟩

/-! ### Handing on -/

theorem handed_setHanded (l : LineController) (f : Option Frame) (h g : Handler) :
    (l.setHanded f h).handed g = if g = h then f else l.handed g := by
  cases h <;> cases g <;> rfl

theorem handed_setHanded_self (l : LineController) (f : Option Frame) (h : Handler) : (l.setHanded f h).handed h = f :=
  (handed_setHanded l f h h).trans (if_pos rfl)

theorem handed_setHanded_ne (l : LineController) (f : Option Frame) {g h : Handler} (hne : g ≠ h) :
    (l.setHanded f h).handed g = l.handed g :=
  (handed_setHanded l f h g).trans (if_neg hne)

theorem setHanded_holding (l : LineController) (f : Option Frame) (h : Handler) :
    (l.setHanded f h).holding = l.holding := by
  cases h <;> rfl

/-- The slots and the held frame of a line, replaced by those of another (R111). -/
def LineController.slotsOf (l m : LineController) : LineController :=
  { l with holding := m.holding, toOfferer := m.toOfferer, toBalancer := m.toBalancer, toSettlement := m.toSettlement }

theorem setHanded_slots (l : LineController) (f : Option Frame) (h : Handler) : (l.setHanded f h).slotsOf l = l := by
  cases h <;> rfl

/-- A frame held for the block is handed to it when it has taken the one before (R111). -/
theorem frameTakenBy_held {s : State} {h : Handler} {f : Frame} (hold : s.line.holding = some f)
    (hf : f.payload.handler = some h) :
    (s.frameTakenBy h).line = { s.line.setHanded (some f) h with holding := none } := by
  simp only [State.frameTakenBy, State.onLine, hold, if_pos hf]

theorem frameTakenBy_free {s : State} {h : Handler} (hnone : ∀ f, s.line.holding = some f → f.payload.handler ≠ some h) :
    (s.frameTakenBy h).line = s.line.setHanded none h := by
  cases hold : s.line.holding with
  | none => simp only [State.frameTakenBy, State.onLine, hold]
  | some f => simp only [State.frameTakenBy, State.onLine, hold, if_neg (hnone f hold)]

/-- A frame of a kind that is handed on is for this station when it is a CALL or its first byte is the station's number
(R101, R111). -/
theorem addressedHere_iff (s : State) {p : Payload} (h : p.handler ≠ none) :
    s.addressedHere p = true ↔
      (∃ need, p = .call need) ∨ s.ctl.config.station.map (·.val) = some (p.data.headD 0).toNat := by
  have hfirst : ∀ d : Byte, p.dest = some d → p.data.headD 0 = d → (¬ ∃ need, p = .call need) →
      (s.addressedHere p = true ↔
        (∃ need, p = .call need) ∨ s.ctl.config.station.map (·.val) = some (p.data.headD 0).toNat) := by
    intro d hdest hhead hcall
    rw [State.addressedHere, hdest, hhead, or_iff_right hcall]
    exact ownNumber_iff s d.toNat
  cases p with
  | give d n body => cases body <;> exact hfirst d rfl rfl fun ⟨_, he⟩ => nomatch he
  | reply kind d n => exact hfirst d rfl rfl fun ⟨_, he⟩ => nomatch he
  | query d n => exact hfirst d rfl rfl fun ⟨_, he⟩ => nomatch he
  | take d a => exact hfirst d rfl rfl fun ⟨_, he⟩ => nomatch he
  | noneLeft d => exact hfirst d rfl rfl fun ⟨_, he⟩ => nomatch he
  | offer d a => exact hfirst d rfl rfl fun ⟨_, he⟩ => nomatch he
  | call need => exact iff_of_true rfl (.inl ⟨need, rfl⟩)
  | roll c => exact absurd rfl h

theorem handOn_elsewhere {s : State} {f : Frame} (h : f.payload.handler = none ∨ s.addressedHere f.payload = false) :
    s.handOn f = s := by
  rw [State.handOn]
  cases hh : f.payload.handler with
  | none => rfl
  | some g =>
    have haddr : s.addressedHere f.payload = false := h.resolve_left fun hn => nomatch hh.symm.trans hn
    exact if_neg (by rw [haddr]; exact Bool.false_ne_true)

theorem handOn_free {s : State} {f : Frame} {h : Handler} (hh : f.payload.handler = some h)
    (haddr : s.addressedHere f.payload = true) (hfree : s.line.handed h = none) :
    s.handOn f = { s with line := s.line.setHanded (some f) h } := by
  simp only [State.handOn, hh, if_pos haddr, State.onLine, hfree]

theorem handOn_busy {s : State} {f : Frame} {h : Handler} (hh : f.payload.handler = some h)
    (haddr : s.addressedHere f.payload = true) (hbusy : s.line.handed h ≠ none) :
    s.handOn f = { s with line := { s.line with holding := some f } } := by
  obtain ⟨g, hg⟩ := Option.ne_none_iff_exists'.1 hbusy
  simp only [State.handOn, hh, if_pos haddr, State.onLine, hg]

/-- Handing on changes the slots and the held frame alone (R111). -/
theorem handOn_slots (s : State) (f : Frame) : s.handOn f = { s with line := s.line.slotsOf (s.handOn f).line } := by
  rw [State.handOn]
  split
  · rfl
  · split
    · rename_i h _ _
      simp only [State.onLine]
      cases s.line.handed h with
      | none => cases h <;> rfl
      | some g => rfl
    · rfl

/-- Where a frame goes that finds no frame held: to its block, or held for it, or nowhere (R111). -/
theorem handOn_hands {s : State} {f : Frame} (hold : s.line.holding = none) {forThis : Prop}
    (hfor : f.payload.handler ≠ none → (s.addressedHere f.payload = true ↔ forThis)) :
    (∀ h : Handler,
      (f.payload.handler = some h → forThis → s.line.handed h = none →
        (s.handOn f).line.handed h = some f ∧ (s.handOn f).line.holding = none) ∧
      (f.payload.handler = some h → forThis → s.line.handed h ≠ none →
        (s.handOn f).line.handed h = s.line.handed h ∧ (s.handOn f).line.holding = some f) ∧
      (f.payload.handler ≠ some h ∨ ¬ forThis → (s.handOn f).line.handed h = s.line.handed h)) ∧
    (f.payload.handler = none ∨ ¬ forThis → (s.handOn f).line.holding = none) := by
  have haddr : ∀ {h : Handler}, f.payload.handler = some h → forThis → s.addressedHere f.payload = true :=
    fun hh hthis => (hfor (by rw [hh]; exact Option.some_ne_none _)).2 hthis
  have helse : f.payload.handler = none ∨ ¬ forThis → s.handOn f = s := by
    rintro (hnone | hnot)
    · exact handOn_elsewhere (.inl hnone)
    · by_cases hnone : f.payload.handler = none
      · exact handOn_elsewhere (.inl hnone)
      · exact handOn_elsewhere (.inr (Bool.eq_false_iff.2 (mt (hfor hnone).1 hnot)))
  refine ⟨fun h => ⟨fun hh hthis hfree => ?_, fun hh hthis hbusy => ?_, fun hother => ?_⟩, fun h => ?_⟩
  · rw [handOn_free hh (haddr hh hthis) hfree]
    exact ⟨handed_setHanded_self _ _ _, (setHanded_holding _ _ _).trans hold⟩
  · rw [handOn_busy hh (haddr hh hthis) hbusy]
    refine ⟨?_, rfl⟩
    cases h <;> rfl
  · by_cases hthis : forThis
    · have hne := hother.resolve_right (Classical.not_not.2 hthis)
      cases hg : f.payload.handler with
      | none => rw [helse (.inl hg)]
      | some g =>
        by_cases hfree : s.line.handed g = none
        · rw [handOn_free hg (haddr hg hthis) hfree]
          exact handed_setHanded_ne _ _ fun he => hne (hg.trans (congrArg some he.symm))
        · rw [handOn_busy hg (haddr hg hthis) hfree]
          cases h <;> rfl
    · rw [helse (.inr hthis)]
  · rw [helse h]
    exact hold

/-! ### Taking the front frame -/

/-- The state in which a frame taken from the front is handed on: its sender heard, and the alert of a newer tariff (R111,
R115, R116, R119). -/
def State.hearing (f : Frame) (rest : List Frame) (s : State) : State := { s with
  line := { s.line with
    rx := rest, peers := s.line.peers.set f.sender.slot (PeerEntry.heard f.payload (s.peer f.sender)) },
  host := { s.host with alerts := { s.host.alerts with
    peerTariffNewer := s.host.alerts.peerTariffNewer || s.announcesNewer (s.peer f.sender) f.payload } } }

theorem takeFront_eq {s : State} {f : Frame} {rest : List Frame} (hrx : s.line.rx = f :: rest)
    (hold : s.line.holding = none) : s.takeFront = (s.hearing f rest).handOn f := by
  have hlatch : ∀ (a : AlertStore) (b : Bool), (if b then a.latch .peerTariffNewer else a) =
      { a with peerTariffNewer := a.peerTariffNewer || b } := by
    intro a b
    cases b <;> simp [AlertStore.latch]
  simp only [State.takeFront, hrx, hold, Option.isSome_none, latchIf_eq, hlatch]
  rfl

theorem peer_hearing_self (s : State) (f : Frame) (rest : List Frame) :
    (s.hearing f rest).peer f.sender = PeerEntry.heard f.payload (s.peer f.sender) :=
  Vector.getElem_set_self f.sender.slot.isLt

theorem slot_ne {j k : Station} (h : j ≠ k) : j.slot.val ≠ k.slot.val := by
  have hj := j.property
  have hk := k.property
  intro he
  exact h (Subtype.ext (by simp only [Station.slot] at he; omega))

theorem peer_set_ne {peers : Vector PeerEntry 15} {j k : Station} (h : j ≠ k) (e : PeerEntry) :
    (peers.set k.slot e)[j.slot] = peers[j.slot] :=
  Vector.getElem_set_ne k.slot.isLt j.slot.isLt (slot_ne h).symm

/-- R119: a ROLL announces a generation above the active and the staged one, which its sender did not announce before. -/
theorem announcesNewer_roll (s : State) (e : PeerEntry) (c : RollContent) :
    s.announcesNewer e (.roll c) = decide (s.activeGeneration < c.generation.toNat ∧
      s.reportedStagedGeneration < c.generation.toNat ∧ e.roll.map (·.generation) ≠ some c.generation) := by
  rw [State.announcesNewer]
  cases e.roll <;> simp [Bool.and_assoc, bne, Bool.beq_eq_decide_eq]

/-- Settles O41. -/
theorem frontFrameIsTaken : Obligations.FrontFrameIsTaken := by
  unfold Obligations.FrontFrameIsTaken
  intro block
  have hblock : block = Payload.handler := by
    funext p
    cases p <;> rfl
  clear_value block
  subst hblock
  refine ⟨fun h s => ?_, fun f rest s hon hcom hrx hold => ?_⟩
  · intro t
    have hframe : ∀ l, t.line = l → l.slotsOf s.line = s.line → { t with line := t.line.slotsOf s.line } = s := by
      intro l hl hslots
      rw [hl, hslots]
      rfl
    by_cases hheld : ∃ f, s.line.holding = some f ∧ f.payload.handler = some h
    · obtain ⟨f, hf, hh⟩ := hheld
      have ht : t.line = { s.line.setHanded (some f) h with holding := none } := frameTakenBy_held hf hh
      refine ⟨fun f' hf' _ => ?_, fun hnone => absurd hh (hnone f hf), fun g hg => ?_,
        hframe _ ht (setHanded_slots s.line (some f) h)⟩
      · obtain rfl : f = f' := Option.some.inj (hf.symm.trans hf')
        rw [ht]
        exact ⟨handed_setHanded_self s.line (some f) h, rfl⟩
      · rw [ht]
        exact handed_setHanded_ne s.line (some f) hg
    · have hnone : ∀ f, s.line.holding = some f → f.payload.handler ≠ some h := fun f hf hh => hheld ⟨f, hf, hh⟩
      have ht : t.line = s.line.setHanded none h := frameTakenBy_free hnone
      refine ⟨fun f hf hh => absurd hh (hnone f hf), fun _ => ?_, fun g hg => ?_,
        hframe _ ht (setHanded_slots s.line none h)⟩
      · rw [ht]
        exact ⟨handed_setHanded_self s.line none h, setHanded_holding s.line none h⟩
      · rw [ht]
        exact handed_setHanded_ne s.line none hg
  · intro forThis
    have ht : s.takeFront = { s.hearing f rest with
        line := (s.hearing f rest).line.slotsOf ((s.hearing f rest).handOn f).line } := by
      rw [takeFront_eq hrx hold, ← handOn_slots]
    have hslots : ∀ l m : LineController, (l.slotsOf m).handed = m.handed := fun l m => by funext h; cases h <;> rfl
    obtain ⟨hhanded, hholding⟩ := handOn_hands (s := s.hearing f rest) (f := f) hold (addressedHere_iff s)
    refine ⟨_, (congrArg Host.Outcome.next (if_pos (active_of_on hon hcom))).trans (congrArg _ ht), rfl, ?_, ?_, ?_, ?_, ?_,
      hholding, ?_, rfl⟩
    · exact congrArg PeerEntry.presence (peer_hearing_self s f rest)
    · exact congrArg PeerEntry.silence (peer_hearing_self s f rest)
    · refine (congrArg PeerEntry.roll (peer_hearing_self s f rest)).trans ?_
      cases f.payload <;> rfl
    · exact fun k hk => peer_set_ne hk _
    · intro h
      rw [hslots]
      exact hhanded h
    · refine congrArg (s.host.alerts.peerTariffNewer || ·) ?_
      cases f.payload with
      | roll c => exact announcesNewer_roll s _ c
      | _ => rfl

/-! ### Silence -/

theorem peer_silenceSecond (s : State) (k : Station) : s.silenceSecond.peer k = (s.peer k).secondPasses := by
  rw [State.peer, State.silenceSecond]
  exact Vector.getElem_ofFn k.slot.isLt

theorem silenceSecond_frame (s : State) (peers : Vector PeerEntry 15) (secondMs : Nat) :
    { s.silenceSecond with line := { s.silenceSecond.line with peers := peers, secondMs := secondMs } } =
      { s with line := { s.line with peers := peers, secondMs := secondMs } } := by
  unfold State.silenceSecond State.onLine
  generalize Vector.ofFn (fun i : Fin 15 => s.line.peers[i].secondPasses) = peers'
  rfl

theorem peer_onPeer_self (s : State) (k : Station) (f : PeerEntry → PeerEntry) : (s.onPeer k f).peer k = f (s.peer k) :=
  Vector.getElem_set_self k.slot.isLt

theorem secondPasses_eq (e : PeerEntry) :
    e.secondPasses = { e with
      silence := if e.presence = .present ∨ e.presence = .absent then min (e.silence + 1) 65535 else e.silence } := by
  rw [PeerEntry.secondPasses]
  split <;> rfl

theorem judged_eq (e : PeerEntry) :
    e.judged = { e with
      presence := if e.presence = .present ∧ 3 * ((e.roll.map (·.period.toNat)).getD 60) ≤ e.silence then .absent
        else e.presence } := by
  have hperiod : e.period = (e.roll.map (·.period.toNat)).getD 60 := by
    rw [PeerEntry.period]
    cases e.roll <;> rfl
  rw [PeerEntry.judged, PeerEntry.absenceDue, hperiod]
  simp only [Bool.and_eq_true, beq_iff_eq, decide_eq_true_eq]
  split <;> rfl

/-- Settles O42. -/
theorem silenceRaisesAndAbsenceFollows : Obligations.SilenceRaisesAndAbsenceFollows := by
  intro s hon hcom
  have hactive := active_of_on hon hcom
  constructor
  · refine ⟨s.silenceSecond, congrArg Host.Outcome.next (if_pos hactive), rfl, fun k => ?_, ?_⟩
    · rw [peer_silenceSecond, secondPasses_eq]
    · rw [silenceSecond_frame]
  · intro k
    refine ⟨s.onPeer k PeerEntry.judged, congrArg Host.Outcome.next (if_pos hactive), ?_, fun j hj => ?_, ?_⟩
    · rw [peer_onPeer_self, judged_eq]
    · exact peer_set_ne hj _
    · rfl

end Sys2Proof.Machine
end

section
/-! PROOFS. The stock unit's deliveries, counts and consignments, and the journal's command (R70 to R79, R89 to R96). -/

namespace Sys2Proof.Machine

variable {s : State}

/-! ### STOCK_IN -/

/-- A count past a bound of R70. -/
theorem overStock_iff (s : State) (d : Fin 16) (n : Nat) :
    s.overStock d n = true ↔ 65535 < s.stock[d].onHand + n + s.openStock d ∨ 4294967295 < s.stockTotal d + n := by
  rw [State.overStock, Bool.or_eq_true, decide_eq_true_eq, decide_eq_true_eq, State.committedStock, Nat.add_right_comm]
  rfl

section
variable {denom : Byte} {count : BitVec 16} (hcount : 1 ≤ count.toNat)
include hcount

theorem stockInRequest_absent (hdenom : s.denomAt denom.toNat = none) :
    stockInRequest denom count s =
      (s.drawn, .result .denomAbsent (stockInData denom (Config.absentOnHand s.freeDraws).toNat
        (Config.absentCounter s.freeDraws 0).toNat s.acct.limit)) := by
  simp only [stockInRequest, if_neg (Nat.ne_of_gt hcount), hdenom]

variable {d : Fin 16} (hdenom : s.denomAt denom.toNat = some d)
include hdenom

theorem stockInRequest_capped (hcap : s.overStock d count.toNat = true) :
    stockInRequest denom count s =
      (s.setLimit, .result .stockCap (stockInData denom s.stock[d].onHand s.stock[d].received true)) := by
  simp only [stockInRequest, if_neg (Nat.ne_of_gt hcount), hdenom, if_pos hcap]
  rfl

theorem stockInRequest_full (hcap : s.overStock d count.toNat = false) (hspace : s.spaceForEntry = false) :
    stockInRequest denom count s =
      (s, .result .journalFull (stockInData denom s.stock[d].onHand s.stock[d].received s.acct.limit)) := by
  simp only [stockInRequest, if_neg (Nat.ne_of_gt hcount), hdenom, hcap, if_pos hspace]
  rfl

theorem stockInRequest_delivers (hcap : s.overStock d count.toNat = false) (hspace : s.spaceForEntry = true) :
    stockInRequest denom count s =
      (s.deliver d count.toNat, .result .ok (stockInData denom (s.stock[d].onHand + count.toNat)
        (s.stock[d].received + count.toNat) s.acct.limit)) := by
  have hnew : (s.deliver d count.toNat).stock[d] = { s.stock[d] with
      onHand := s.stock[d].onHand + count.toNat, received := s.stock[d].received + count.toNat } := by
    rw [deliver_eq]
    exact Vector.getElem_set_self d.isLt
  have hlimit : (s.deliver d count.toNat).acct = s.acct := by rw [deliver_eq]
  have hspace' : ¬ s.spaceForEntry = false := by rw [hspace]; decide
  simp only [stockInRequest, if_neg (Nat.ne_of_gt hcount), hdenom, hcap, if_neg hspace', hnew, hlimit]
  rfl

end

/-- Settles O31. -/
theorem stockInDeliversOrRefuses : Obligations.StockInDeliversOrRefuses := by
  intro denom count s hready hactive hcount h16 answered
  let u : State := s.accepting (.stockIn denom count) (some true)
  have hexec : ∀ {t a}, stockInRequest denom count u = (t, a) →
      exec (.stockIn true denom count) s = .next { t with host := { t.host with answer := some a } } := fun h =>
    exec_supervisor (.stockIn denom count) rfl hready ((whenActive_of_active (s := u) hactive _).trans h)
  refine ⟨fun habsent => ⟨_, _, hexec (stockInRequest_absent (s := u) hcount (State.denomAt_of_absent habsent))⟩, ?_⟩
  intro d hd hexists now onHand received
  have hdenom : u.denomAt denom.toNat = some d := hd ▸ State.denomAt_of_exists hexists
  split
  · rename_i hcap
    exact hexec (stockInRequest_capped (s := u) hcount hdenom ((overStock_iff _ _ _).2 hcap))
  rename_i hcap
  have hnot : u.overStock d count.toNat = false := Bool.eq_false_iff.2 (mt (overStock_iff u d count.toNat).1 hcap)
  split
  · rename_i hspace
    exact hexec (stockInRequest_full (s := u) hcount hdenom hnot hspace)
  · rename_i hspace
    refine (hexec (stockInRequest_delivers (s := u) hcount hdenom hnot (Bool.not_eq_false _ ▸ hspace))).trans ?_
    rw [deliver_eq]
    rfl

/-! ### COUNT -/

theorem overCount_iff (s : State) (d : Fin 16) (p : Nat) :
    s.overCount d p = true ↔ s.stock[d].onHand < p ∧
      (65535 < p + s.openStock d ∨ 4294967295 < s.stockTotal d + (p - s.stock[d].onHand)) := by
  rw [State.overCount, Bool.and_eq_true, Bool.or_eq_true, decide_eq_true_eq, decide_eq_true_eq, decide_eq_true_eq]
  rfl

/-- The data of a COUNT, with the difference as it is taken (R77, R190). -/
theorem countData_eq (denom : Byte) (p before after overs shorts : Nat) (limit : Bool) :
    countData denom p before after overs shorts limit =
      denom :: beBytes 2 before ++ beBytes 2 after ++ beBytes 2 (if before ≤ p then p - before else before - p) ++
        [if before < p then 1 else if p < before then 2 else 0] ++ beBytes 4 overs ++ beBytes 4 shorts ++
        [flagByte limit] := by
  have hdiff : max before p - min before p = if before ≤ p then p - before else before - p := by
    split <;> omega
  rw [countData, hdiff]
  rfl

section
variable {denom : Byte} {count : BitVec 16}

theorem countRequest_absent (hdenom : s.denomAt denom.toNat = none) :
    countRequest denom count s =
      (s.drawn, .result .denomAbsent (countData denom count.toNat (Config.absentOnHand s.freeDraws).toNat
        (Config.absentOnHand s.freeDraws).toNat (Config.absentCounter s.freeDraws 1).toNat
        (Config.absentCounter s.freeDraws 2).toNat s.acct.limit)) := by
  simp only [countRequest, hdenom]

variable {d : Fin 16} (hdenom : s.denomAt denom.toNat = some d)
include hdenom

theorem countRequest_capped (hcap : s.overCount d count.toNat = true) :
    countRequest denom count s =
      (s.setLimit, .result .stockCap (countData denom count.toNat s.stock[d].onHand s.stock[d].onHand
        s.stock[d].overFound s.stock[d].shortFound true)) := by
  simp only [countRequest, hdenom, if_pos hcap]
  rfl

theorem countRequest_equal (hcap : s.overCount d count.toNat = false) (heq : s.stock[d].onHand = count.toNat) :
    countRequest denom count s =
      (s, .result .ok (countData denom count.toNat s.stock[d].onHand s.stock[d].onHand
        s.stock[d].overFound s.stock[d].shortFound s.acct.limit)) := by
  simp only [countRequest, hdenom, hcap, if_pos heq]
  rfl

theorem countRequest_full (hcap : s.overCount d count.toNat = false) (hne : s.stock[d].onHand ≠ count.toNat)
    (hspace : s.spaceForEntry = false) :
    countRequest denom count s =
      (s, .result .journalFull (countData denom count.toNat s.stock[d].onHand s.stock[d].onHand
        s.stock[d].overFound s.stock[d].shortFound s.acct.limit)) := by
  simp only [countRequest, hdenom, hcap, if_neg hne, if_pos hspace]
  rfl

theorem countRequest_adjusts (hcap : s.overCount d count.toNat = false) (hne : s.stock[d].onHand ≠ count.toNat)
    (hspace : s.spaceForEntry = true) :
    countRequest denom count s =
      (s.adjust d count.toNat, .result .ok (countData denom count.toNat s.stock[d].onHand
        (s.adjust d count.toNat).stock[d].onHand (s.adjust d count.toNat).stock[d].overFound
        (s.adjust d count.toNat).stock[d].shortFound (s.adjust d count.toNat).acct.limit)) := by
  have hspace' : ¬ s.spaceForEntry = false := by rw [hspace]; decide
  simp only [countRequest, hdenom, hcap, if_neg hne, if_neg hspace']
  rfl

end

theorem stock_set_self (stock : Vector Denom 16) (d : Fin 16) (x : Denom) : (stock.set d x)[d] = x :=
  Vector.getElem_set_self d.isLt

/-- Settles O32. -/
theorem countSetsOnHandOrRefuses : Obligations.CountSetsOnHandOrRefuses := by
  intro denom count s hready hactive h16 p reported answered
  let u : State := s.accepting (.count denom count) (some true)
  have hexec : ∀ {t a}, countRequest denom count u = (t, a) →
      exec (.count true denom count) s = .next { t with host := { t.host with answer := some a } } := fun h =>
    exec_supervisor (.count denom count) rfl hready ((whenActive_of_active (s := u) hactive _).trans h)
  refine ⟨fun habsent => ⟨Config.absentOnHand s.freeDraws, Config.absentCounter s.freeDraws 1,
    Config.absentCounter s.freeDraws 2, ?_⟩, ?_⟩
  · have hrun := countRequest_absent (s := u) (count := count) (State.denomAt_of_absent habsent)
    rw [countData_eq] at hrun
    exact hexec hrun
  intro d hd hexists x
  have hdenom : u.denomAt denom.toNat = some d := hd ▸ State.denomAt_of_exists hexists
  split
  · rename_i hcap
    have hrun := countRequest_capped (s := u) (count := count) hdenom ((overCount_iff _ _ _).2 hcap)
    rw [countData_eq] at hrun
    exact hexec hrun
  rename_i hcap
  have hnot : u.overCount d count.toNat = false := Bool.eq_false_iff.2 (mt (overCount_iff u d count.toNat).1 hcap)
  split
  · rename_i heq
    have hrun := countRequest_equal (s := u) (count := count) hdenom hnot heq.symm
    rw [countData_eq] at hrun
    have hx : u.stock[d].onHand = p := heq.symm
    rw [hx] at hrun
    exact hexec hrun
  rename_i hne
  have hne' : u.stock[d].onHand ≠ count.toNat := fun h => hne h.symm
  split
  · rename_i hspace
    have hrun := countRequest_full (s := u) (count := count) hdenom hnot hne' hspace
    rw [countData_eq] at hrun
    exact hexec hrun
  rename_i hspace
  have hrun := countRequest_adjusts (s := u) (count := count) hdenom hnot hne' (Bool.not_eq_false _ ▸ hspace)
  rw [countData_eq] at hrun
  split
  · rename_i hlt
    rw [adjust_over u hlt, stock_set_self] at hrun
    exact hexec hrun
  · rename_i hlt
    rw [adjust_short u hlt, stock_set_self] at hrun
    exact hexec hrun

/-! ### CONSIGN -/

theorem takesConsignment_eq_false (e : PeerEntry) :
    e.takesConsignment = false ↔ e.presence ≠ .present ∨ e.roll.map (·.state) ≠ some .active := by
  rw [PeerEntry.takesConsignment, Bool.and_eq_false_iff, beq_eq_false_iff_ne]
  refine or_congr_right ?_
  cases e.roll with
  | none => simp
  | some r => simp

theorem roomForRecord_eq_false (s : State) (k : Station) :
    s.roomForRecord k = false ↔ k ∈ s.settle.records.map (·.receiver) ∨ 4 ≤ s.settle.records.length := by
  rw [← Bool.not_eq_true, roomForRecord_iff, Classical.not_and_iff_not_or_not, Nat.not_lt, List.mem_map]
  refine or_congr_left ?_
  simp only [ne_eq, Classical.not_forall, Classical.not_not, exists_prop]

/-- The tests 2 to 6 of R78 in order, in the words of their registers. -/
theorem consignTest_eq (s : State) (k : Station) (d : Fin 16) (n : Nat) :
    s.consignTest k d n =
      if (s.peer k).presence ≠ .present ∨ (s.peer k).roll.map (·.state) ≠ some .active then some .peerAbsent
      else if k ∈ s.settle.records.map (·.receiver) ∨ 4 ≤ s.settle.records.length then some .peerBusy
      else if s.stock[d].onHand < n then some .stockShort
      else if 4294967295 < s.stockTotal d + n then some .stockCap
      else if s.spaceForGive = false then some .journalFull
      else none := by
  simp only [State.consignTest, takesConsignment_eq_false, roomForRecord_eq_false]
  rfl

theorem told_giveSerial (u : SettlementUnit) (o : Option Payload) : (u.told o).giveSerial = u.giveSerial := by
  cases o <;> rfl

section
variable {k : Station} {denom : Byte} {count : BitVec 16} (hown : s.ctl.config.station ≠ some k) (hcount : 1 ≤ count.toNat)
include hown hcount

omit hown hcount in
theorem stationByte (k : Station) : (BitVec.ofNat 8 k.val).toNat = k.val := by
  rw [BitVec.toNat_ofNat, Nat.mod_eq_of_lt (by have := k.property; omega)]

/-- A CONSIGN to another station is admitted (R72, R78). -/
theorem consign_admitted : ¬(s.ownNumber k.val = true ∨ count.toNat = 0) := by
  rintro (h | h)
  · exact hown ((ownNumber_val_iff s k).1 h)
  · omega

theorem consignRequest_absent (hdenom : s.denomAt denom.toNat = none) :
    consignRequest (BitVec.ofNat 8 k.val) denom count s =
      consignRefusal .denomAbsent (Config.absentOnHand s.freeDraws).toNat s.drawn := by
  simp only [consignRequest, stationByte, stationOf_val, if_neg (consign_admitted hown hcount), hdenom]

variable {d : Fin 16} (hdenom : s.denomAt denom.toNat = some d)
include hdenom

theorem consignRequest_refused {c : Code} (htest : s.consignTest k d count.toNat = some c) :
    consignRequest (BitVec.ofNat 8 k.val) denom count s =
      ({ s with acct := { s.acct with limit := s.acct.limit || c == .stockCap } },
        .result c (flagByte (s.acct.limit || c == .stockCap) :: beBytes 2 s.stock[d].onHand)) := by
  simp only [consignRequest, stationByte, stationOf_val, if_neg (consign_admitted hown hcount), hdenom, htest]
  by_cases hc : c = .stockCap
  · subst hc
    rw [beq_self_eq_true, Bool.or_true, if_pos rfl]
    rfl
  · rw [beq_eq_false_iff_ne.2 hc, Bool.or_false, if_neg hc]
    rfl

theorem consignRequest_consigns (htest : s.consignTest k d count.toNat = none) :
    consignRequest (BitVec.ofNat 8 k.val) denom count s =
      (s.consign k d count.toNat, .result .ok (BitVec.ofNat 8 k.val ::
        beBytes 2 (s.settle.giveSerial + 1).toNat ++ [denom] ++ beBytes 2 count.toNat ++
        beBytes 2 (s.stock[d].onHand - count.toNat) ++ beBytes 4 (s.stock[d].outward + count.toNat))) := by
  have hserial : (s.consign k d count.toNat).settle.giveSerial = s.settle.giveSerial + 1 := by
    rw [consign_eq, place_line]
    exact told_giveSerial _ _
  have hstock : (s.consign k d count.toNat).stock[d] = { s.stock[d] with
      onHand := s.stock[d].onHand - count.toNat, outward := s.stock[d].outward + count.toNat } := by
    rw [consign_eq, place_line]
    exact stock_set_self _ _ _
  simp only [consignRequest, stationByte, stationOf_val, if_neg (consign_admitted hown hcount), hdenom, htest, hserial,
    hstock]

end

/-- Settles O33. -/
theorem consignOpensAStockRecord : Obligations.ConsignOpensAStockRecord := by
  intro k denom count s hready hactive hown hcount h16 station n answered
  let u : State := s.accepting (.consign station denom count) (some true)
  have hexec : ∀ {t a}, consignRequest station denom count u = (t, a) →
      exec (.consign true station denom count) s = .next { t with host := { t.host with answer := some a } } := fun h =>
    exec_supervisor (.consign station denom count) rfl hready ((whenActive_of_active (s := u) hactive _).trans h)
  refine ⟨fun habsent => ⟨_, hexec (consignRequest_absent (s := u) hown hcount (State.denomAt_of_absent habsent))⟩, ?_⟩
  intro d hd hexists x refused
  have hdenom : u.denomAt denom.toNat = some d := hd ▸ State.denomAt_of_exists hexists
  have hrefused : ∀ {c}, s.consignTest k d n = some c → refused c := fun hc =>
    hexec (consignRequest_refused (s := u) hown hcount hdenom hc)
  have htest := consignTest_eq s k d n
  split
  · rename_i h1
    exact hrefused (htest.trans (if_pos h1))
  rename_i h1
  rw [if_neg h1] at htest
  split
  · rename_i h2
    exact hrefused (htest.trans (if_pos h2))
  rename_i h2
  rw [if_neg h2] at htest
  split
  · rename_i h3
    exact hrefused (htest.trans (if_pos h3))
  rename_i h3
  rw [if_neg h3] at htest
  split
  · rename_i h4
    exact hrefused (htest.trans (if_pos h4))
  rename_i h4
  rw [if_neg h4] at htest
  split
  · rename_i h5
    exact hrefused (htest.trans (if_pos h5))
  rename_i h5
  rw [if_neg h5] at htest
  intro serial
  refine (hexec (consignRequest_consigns (s := u) hown hcount hdenom htest)).trans ?_
  have hcount' : BitVec.ofNat 16 count.toNat = count :=
    (BitVec.ofNat_toNat 16 count).trans (BitVec.setWidth_eq count)
  have hpayload : (u.nextRecord k (.stock d count.toNat (u.face d))).givePayload =
      .give station serial (.stock (BitVec.ofNat 4 d.val) count (BitVec.ofNat 16 (s.face d))) :=
    congrArg (fun c => Payload.give station serial (.stock (BitVec.ofNat 4 d.val) c (BitVec.ofNat 16 (s.face d)))) hcount'
  rw [consign_eq, hpayload, place_line, place_line]
  rfl

/-! ### AUDIT_CLOSE -/

/-- An audit close removes the entries that it does not keep (R95). -/
theorem closedCount_eq (s : State) (q : Nat) :
    s.closedCount q = s.journal.entries.length - (s.journal.entries.filter fun e => q < e.seq).length := by
  have hall := List.length_eq_countP_add_countP (l := s.journal.entries) (fun e : Entry => decide (e.seq ≤ q))
  have hrest : s.journal.entries.countP (fun e => decide ¬ decide (e.seq ≤ q) = true) =
      (s.journal.entries.filter fun e => q < e.seq).length := by
    rw [List.countP_eq_length_filter]
    simp only [decide_eq_true_eq, Nat.not_le]
  rw [hrest] at hall
  rw [State.closedCount]
  omega

theorem cursorFalls_eq (h : HostPort) (n : Nat) :
    h.cursorFalls n = { h with
      cursorIndex := if h.cursorRegion = .journal then h.cursorIndex - n else h.cursorIndex } := by
  rw [HostPort.cursorFalls]
  split <;> rfl

theorem oldestSeq_eq (s : State) : s.oldestSeq = (s.journal.entries.head?.map fun e : Entry => e.seq).getD 0 := by
  rw [State.oldestSeq]
  cases s.journal.entries <;> rfl

theorem closeAudit_eq (s : State) (q : Nat) :
    s.closeAudit q = { s with
      journal := { s.journal with entries := s.journal.entries.filter fun e => q < e.seq },
      acct := { s.acct with limit := false },
      host := { s.host with
        cursorIndex := if s.host.cursorRegion = .journal then
            s.host.cursorIndex - (s.journal.entries.length - (s.journal.entries.filter fun e => q < e.seq).length)
          else s.host.cursorIndex } } := by
  rw [← closedCount_eq, ← cursorFalls_eq]
  rfl

/-- Settles O35: what remains of the journal gives the number removed. -/
theorem auditCloseRemovesEntriesUpTo : Obligations.AuditCloseRemovesEntriesUpTo := by
  refine ⟨fun s => ⟨spaceForEntry_iff s, spaceForGive_iff s⟩, fun q s hready hcom => ?_⟩
  refine ⟨_, exec_supervisor (.auditClose q) rfl hready (if_neg hcom), ?_⟩
  rw [oldestSeq_eq, closedCount_eq, closeAudit_eq]
  exact ⟨rfl, rfl, rfl, rfl⟩

end Sys2Proof.Machine
end

section
/-! PROOFS. The balancer as caller and as offerer (R123 to R132). -/

namespace Sys2Proof.Machine

variable {s : State}

/-! ### The start test -/

/-- A test of the peer table is a test of some station's entry (R114). -/
theorem any_peer_iff (s : State) (f : PeerEntry → Bool) :
    s.line.peers.toList.any f = true ↔ ∃ k : Station, f (s.peer k) = true := by
  rw [List.any_eq_true]
  constructor
  · rintro ⟨e, he, hf⟩
    obtain ⟨i, hi, rfl⟩ := Vector.mem_iff_getElem.1 (Vector.mem_toList_iff.1 he)
    exact ⟨stationAt ⟨i, hi⟩, hf⟩
  · rintro ⟨k, hf⟩
    exact ⟨s.peer k, Vector.mem_toList_iff.2 (Vector.getElem_mem k.slot.isLt), hf⟩

theorem surplusPeer_iff (e : PeerEntry) :
    e.surplusPeer = true ↔ ∃ c : RollContent, e.presence = .present ∧ e.roll = some c ∧ c.state = .active ∧
      c.standing = .surplus ∧ c.canGive = true := by
  rw [PeerEntry.surplusPeer]
  cases e.roll with
  | none => simp
  | some c => simp [and_assoc]

/-- The start test, in the words of its registers (R124). -/
theorem mayCall_iff (s : State) :
    s.mayCall = true ↔ s.bal.caller = .idle ∧ s.ctl.state = .active ∧ s.standing.short = true ∧ s.bal.backoffWait = 0 ∧
      s.spaceForEntry = true ∧ s.line.state = .up ∧ s.minTransfer ≤ s.target - s.acct.credit ∧
      ∃ (k : Station) (c : RollContent), (s.peer k).presence = .present ∧ (s.peer k).roll = some c ∧
        c.state = .active ∧ c.standing = .surplus ∧ c.canGive = true := by
  simp only [State.mayCall, Bool.and_eq_true, beq_iff_eq, any_peer_iff, surplusPeer_iff, State.need, and_assoc]
  refine and_congr_right fun _ => and_congr_right fun _ => and_congr_right fun _ => and_congr_right fun _ =>
    and_congr_right fun _ => and_congr_right fun _ =>
    and_comm.trans (and_congr_left fun _ => ⟨of_decide_eq_true, decide_eq_true⟩)

/-- A call that starts: the caller waits for offers, and its CALL is placed (R124). -/
theorem startTest_calls (h : s.mayCall = true) :
    s.startTest = State.place (.call (BitVec.ofNat 32 (s.target - s.acct.credit))) { s with
      bal := { s.bal with caller := .calling, offers := [], offerWindow := .running 250 } } := if_pos h

theorem startTest_waits (h : ¬ s.mayCall = true) : s.startTest = s := if_neg h

/-- Settles O45. -/
theorem wakeStartsACallOrNot : Obligations.WakeStartsACallOrNot := by
  intro s
  refine ⟨rfl, fun hon hcom hwakes => ?_⟩
  intro u starts
  have hexec : exec .balancerWake s = .next u.startTest := by
    refine congrArg Host.Outcome.next (if_pos ?_)
    rw [active_of_on hon hcom, Bool.true_and]
    exact decide_eq_true hwakes
  have hstart : u.mayCall = true ↔ starts := mayCall_iff u
  exact ⟨fun h => hexec.trans (congrArg _ (startTest_calls (hstart.2 h))),
    fun h => hexec.trans (congrArg _ (startTest_waits (mt hstart.1 h)))⟩

/-! ### The pick -/

/-- An offer no other of the list beats: none is larger, and of the equal ones none is of a lower station (R126). -/
def bestOf (o : Station × Nat) (offers : List (Station × Nat)) : Prop :=
  ∀ q ∈ offers, q.2 < o.2 ∨ (q.2 = o.2 ∧ o.1.val ≤ q.1.val)

theorem betterOffer_left {o q : Station × Nat} (h : q.2 < o.2 ∨ (q.2 = o.2 ∧ o.1.val ≤ q.1.val)) : betterOffer o q = o :=
  if_neg (by omega)

theorem betterOffer_right {o q : Station × Nat} (h : q.2 < o.2 ∨ (q.2 = o.2 ∧ o.1.val ≤ q.1.val)) :
    betterOffer q o = o := by
  rw [betterOffer]
  split
  · rfl
  · have hval : q.2 = o.2 := by omega
    have hstation : q.1.val = o.1.val := by omega
    exact Prod.ext (Subtype.ext hstation) hval

theorem betterOffer_either (a b : Station × Nat) : betterOffer a b = a ∨ betterOffer a b = b := by
  rw [betterOffer]
  split
  · exact .inr rfl
  · exact .inl rfl

/-- The pick finds the offer that none beats (R126). -/
theorem foldl_betterOffer {o x : Station × Nat} {offers : List (Station × Nat)} (ho : o ∈ x :: offers)
    (hbest : bestOf o (x :: offers)) : offers.foldl betterOffer x = o := by
  induction offers generalizing x with
  | nil => exact (List.mem_singleton.1 ho).symm
  | cons y ys ih =>
    obtain ⟨hx, hrest⟩ := List.forall_mem_cons.1 hbest
    obtain ⟨hy, hys⟩ := List.forall_mem_cons.1 hrest
    rw [List.foldl_cons]
    rcases List.mem_cons.1 ho with rfl | ho
    · rw [betterOffer_left hy]
      exact ih List.mem_cons_self (List.forall_mem_cons.2 ⟨hx, hys⟩)
    rcases List.mem_cons.1 ho with rfl | ho
    · rw [betterOffer_right hx]
      exact ih List.mem_cons_self (List.forall_mem_cons.2 ⟨hy, hys⟩)
    · rcases betterOffer_either x y with h | h
      · rw [h]
        exact ih (List.mem_cons_of_mem _ ho) (List.forall_mem_cons.2 ⟨hx, hys⟩)
      · rw [h]
        exact ih (List.mem_cons_of_mem _ ho) (List.forall_mem_cons.2 ⟨hy, hys⟩)

theorem chooseOffer_best {o : Station × Nat} {offers : List (Station × Nat)} (ho : o ∈ offers) (hbest : bestOf o offers) :
    chooseOffer offers = some o := by
  cases offers with
  | nil => exact absurd ho List.not_mem_nil
  | cons x xs => exact congrArg some (foldl_betterOffer ho hbest)

/-- Settles O46. -/
theorem windowPicksAndTakeWaitEnds : Obligations.WindowPicksAndTakeWaitEnds := by
  intro s hon hcom need
  have hactive := active_of_on hon hcom
  have hpick : ∀ {t}, s.pick = t → exec .offerWindow s = .next t := fun h =>
    congrArg Host.Outcome.next ((if_pos hactive).trans h)
  have htake : ∀ {t}, s.endTakeWait = t → exec .takeWait s = .next t := fun h =>
    congrArg Host.Outcome.next ((if_pos hactive).trans h)
  refine ⟨fun hcalling hnone => hpick ?_, fun hcalling o ho hbest => ⟨fun hsmall => hpick ?_, fun hlarge => hpick ?_⟩,
    fun k asked htaking => htake ?_, fun hnot => hpick ?_, fun hnot => htake ?_⟩
  · simp only [State.pick, hcalling, hnone, chooseOffer]
    rfl
  · simp only [State.pick, hcalling, chooseOffer_best ho hbest]
    exact if_pos hsmall
  · simp only [State.pick, hcalling, chooseOffer_best ho hbest]
    exact if_neg (Nat.not_lt.2 hlarge)
  · simp only [State.endTakeWait, htaking]
    rfl
  · rw [State.pick]
    split
    · rename_i hcalling
      exact absurd hcalling hnot
    · rfl
  · rw [State.endTakeWait]
    split
    · rename_i k asked htaking
      exact absurd htaking (hnot k asked)
    · rfl

/-! ### The offerer -/

/-- A block that takes its frame leaves all but the slots and the held frame of the line (R111). -/
theorem frameTakenBy_slots (s : State) (h : Handler) :
    s.frameTakenBy h = { s with line := s.line.slotsOf (s.frameTakenBy h).line } := by
  have hline : (s.frameTakenBy h).line = s.line.slotsOf (s.frameTakenBy h).line := by
    by_cases hheld : ∃ f, s.line.holding = some f ∧ f.payload.handler = some h
    · obtain ⟨f, hf, hh⟩ := hheld
      rw [frameTakenBy_held hf hh]
      cases h <;> rfl
    · rw [frameTakenBy_free fun f hf hh => hheld ⟨f, hf, hh⟩]
      cases h <;> rfl
  exact congrArg (fun l => { s with line := l }) hline

theorem frameTakenBy_state (s : State) (h : Handler) : (s.frameTakenBy h).line.state = s.line.state :=
  (congrArg (fun t : State => t.line.state) (frameTakenBy_slots s h)).trans rfl

/-- The conditions of an OFFER, in the words of their registers (R131). -/
theorem mayOffer_iff (s : State) (k : Station) (need : Nat) :
    s.mayOffer k need = true ↔ s.ctl.state = .active ∧ s.standing = .surplus ∧ s.spaceForGive = true ∧
      (∀ r ∈ s.settle.records, r.receiver ≠ k) ∧ s.settle.records.length < 4 ∧ s.line.state = .up ∧
      s.minTransfer ≤ min need (s.acct.credit - s.target) := by
  simp only [State.mayOffer, Bool.and_eq_true, beq_iff_eq, roomForRecord_iff, State.offerAmount, State.spare, and_assoc]
  exact and_congr_right fun _ => and_congr_right fun _ => and_congr_right fun _ => and_congr_right fun _ =>
    and_congr_right fun _ => and_congr_right fun _ => ⟨of_decide_eq_true, decide_eq_true⟩

/-- Settles O47. -/
theorem callIsOfferedTheSpare : Obligations.CallIsOfferedTheSpare := by
  intro k need s hon hcom hto
  have hexec : exec .callFrame s = .next ((s.frameTakenBy .offerer).takeCall k need.toNat) := by
    show execCallFrame s = _
    simp only [execCallFrame, active_of_on hon hcom, hto]
  rw [hexec, State.takeCall]
  have hoffer := mayOffer_iff (s.frameTakenBy .offerer) k need.toNat
  rw [frameTakenBy_state] at hoffer
  by_cases h : (s.frameTakenBy .offerer).mayOffer k need.toNat = true
  · rw [if_pos h]
    exact congrArg _ (if_pos (hoffer.1 h)).symm
  · rw [if_neg h]
    exact congrArg _ (if_neg (mt hoffer.2 h)).symm

/-- A TAKE that fails one of the first four tests of R132. -/
theorem takeTake_none {k : Station} {a : Nat}
    (h : ¬(s.ctl.state = .active ∧ k ∉ s.settle.records.map (·.receiver) ∧ s.settle.records.length < 4 ∧
      s.minTransfer ≤ min a s.spare ∧ s.spaceForGive = true)) :
    s.takeTake k a = s.place (.noneLeft (BitVec.ofNat 8 k.val)) := by
  rw [State.takeTake]
  split
  · rfl
  rename_i hactive
  split
  · rfl
  rename_i hroom
  split
  · rfl
  rename_i hmin
  split
  · rfl
  rename_i hspace
  rw [roomForRecord_eq_false, not_or, Nat.not_le] at hroom
  exact absurd ⟨Classical.not_not.1 hactive, hroom.1, hroom.2, Nat.not_lt.1 hmin, Bool.not_eq_false _ ▸ hspace⟩ h

/-- A TAKE that passes them is judged by the ascending total (R132). -/
theorem takeTake_judged {k : Station} {a : Nat}
    (h : s.ctl.state = .active ∧ k ∉ s.settle.records.map (·.receiver) ∧ s.settle.records.length < 4 ∧
      s.minTransfer ≤ min a s.spare ∧ s.spaceForGive = true) :
    s.takeTake k a =
      if ascendingCap < s.ascendingTotal + min a s.spare then s.setLimit.place (.noneLeft (BitVec.ofNat 8 k.val))
      else s.giveCredit k (min a s.spare) := by
  obtain ⟨hactive, hto, hfour, hmin, hspace⟩ := h
  rw [State.takeTake, if_neg (Classical.not_not.2 hactive), if_neg, if_neg (Nat.not_lt.2 hmin), if_neg (by rw [hspace]; decide)]
  rw [roomForRecord_eq_false, not_or, Nat.not_le]
  exact ⟨hto, hfour⟩

/-- Settles O48. -/
theorem takeIsGivenOrAnsweredNone : Obligations.TakeIsGivenOrAnsweredNone := by
  intro k dest asked s hon hcom hto g credit serial u
  have hexec : exec .takeFrame s = .next (u.takeTake k asked.toNat) := by
    show execTakeFrame s = _
    simp only [execTakeFrame, active_of_on hon hcom, hto]
    rfl
  split
  · rename_i h
    have hjudged := takeTake_judged (s := u) (a := asked.toNat) h
    split
    · rename_i hcap
      rw [hexec, hjudged, if_neg (by exact Nat.not_lt.2 hcap), giveCredit_eq]
      rfl
    · rename_i hcap
      rw [hexec, hjudged, if_pos (by exact Nat.not_le.1 hcap)]
      rfl
  · rename_i h
    rw [hexec, takeTake_none (s := u) h]

/-! ### Offers and NONE at the caller -/

/-- Settles O49. -/
theorem offerAndNoneReachTheCaller : Obligations.OfferAndNoneReachTheCaller := by
  intro k dest s hon hcom u
  have hactive := active_of_on hon hcom
  refine ⟨fun amount hto => ?_, fun hto => ?_⟩
  · have hexec : exec .offerFrame s = .next (u.onBal fun b =>
        if b.caller = .calling then { b with offers := addOffer k amount.toNat b.offers } else b) := by
      show execOfferFrame s = _
      simp only [execOfferFrame, hactive, hto]
      rfl
    refine ⟨fun hcalling => ?_, fun hnot => ?_⟩
    · rw [hexec, State.onBal, if_pos (by exact hcalling)]
      rfl
    · rw [hexec, State.onBal, if_neg (by exact hnot)]
  · have hexec : exec .noneFrame s = .next (u.onBal fun b =>
        match b.caller with
        | .taking chosen _ => if chosen = k then b.backOff else b
        | _ => b) := by
      show execNoneFrame s = _
      simp only [execNoneFrame, hactive, hto]
      rfl
    refine ⟨fun asked htaking => ?_, fun hnot => ?_⟩
    · have hcaller : u.bal.caller = .taking k asked := htaking
      simp only [hexec, State.onBal, hcaller, if_true]
      rfl
    · rw [hexec, State.onBal]
      split
      · rename_i chosen asked htaking
        rw [if_neg]
        rintro rfl
        exact hnot asked htaking
      · rfl

end Sys2Proof.Machine
end

section
/-! PROOFS. The settlement unit: sends, incoming GIVEs and QUERYs, and answers at the giver (R143 to R153). -/

namespace Sys2Proof.Machine

variable {s : State}

/-! ### A record in the outbound list -/

section
variable {a b : List OutRecord} {r : OutRecord} (hrec : s.settle.records = a ++ r :: b)
  (hn : (s.settle.records.map (·.receiver)).Nodup)
include hrec hn

/-- No record before it has its receiver (R141). -/
theorem receiver_before : ∀ y ∈ a, y.receiver ≠ r.receiver := by
  rw [hrec, List.map_append, List.map_cons, List.nodup_append] at hn
  exact fun y hy => hn.2.2 _ (List.mem_map.2 ⟨y, hy, rfl⟩) _ List.mem_cons_self

theorem isOf_before : ∀ y ∈ a, y.isOf r.receiver r.serial = false := by
  intro y hy
  rw [OutRecord.isOf, beq_eq_false_iff_ne.2 (receiver_before hrec hn y hy), Bool.false_and]

theorem matched_listed : s.matched r.receiver r.serial = some r := by
  have hnone : a.find? (·.isOf r.receiver r.serial) = none := by
    rw [List.find?_eq_none]
    intro y hy
    rw [isOf_before hrec hn y hy]
    exact Bool.false_ne_true
  rw [State.matched, hrec, List.find?_append, hnone, List.find?_cons_of_pos r.isOf_self]
  rfl

theorem found_listed : s.settle.records.find? (·.receiver == r.receiver) = some r := by
  have hnone : a.find? (·.receiver == r.receiver) = none := by
    rw [List.find?_eq_none]
    intro y hy
    rw [beq_eq_false_iff_ne.2 (receiver_before hrec hn y hy)]
    exact Bool.false_ne_true
  rw [hrec, List.find?_append, hnone, List.find?_cons_of_pos (by simp)]
  rfl

theorem update_listed (f : OutRecord → OutRecord) :
    updateRecord (·.isOf r.receiver r.serial) f s.settle.records = a ++ f r :: b := by
  rw [hrec, updateRecord_append_cons (isOf_before hrec hn) r.isOf_self]

theorem without_listed : s.settle.without r = { s.settle with records := a ++ b } := by
  rw [SettlementUnit.without, hrec, eraseP_append_cons (isOf_before hrec hn) r.isOf_self]

/-- The strand of a listed record: it is STRANDED in its place, its wait stopped, its GIVE withdrawn (R143, R157). -/
theorem strand_listed :
    s.strand r = State.noticed { s with
      settle := { s.settle with records := a ++ { r with state := .stranded, wait := .stopped } :: b },
      host := { s.host with alerts := { s.host.alerts with stranded := true } },
      line := (s.withdrawGive r.receiver r.serial).line } := by
  rw [strand_noticed, update_listed hrec hn]
  rfl

end

/-- A withdrawn GIVE leaves the queue while it waits, and stays marked while its attempt runs (R143). -/
theorem withdrawGive_line (s : State) (k : Station) (serial : BitVec 16) :
    (s.withdrawGive k serial).line = { s.line with
      tx := (s.line.tx.filter fun e => e.inProgress || !e.payload.isGiveOf k serial).map fun e =>
        if e.payload.isGiveOf k serial then { e with cancelled := true } else e } := by
  have hfilter : s.line.tx.filter (fun e => !(e.payload.isGiveOf k serial && !e.inProgress)) =
      s.line.tx.filter fun e => e.inProgress || !e.payload.isGiveOf k serial := by
    refine List.filter_congr fun e _ => ?_
    rw [Bool.not_and, Bool.not_not, Bool.or_comm]
  rw [← hfilter]
  rfl

/-- Settles O50. -/
theorem answerWaitResendsOrStrands : Obligations.AnswerWaitResendsOrStrands := by
  intro a b r s hon hcom hrec hn hun hwait
  have hwaits : r.waits = true := Bool.and_eq_true_iff.2 ⟨beq_iff_eq.2 hun, bne_iff_ne.2 hwait⟩
  have hexec : exec (.answerWait r.receiver) s = .next (s.waitRunsOut r) := by
    show execAnswerWait r.receiver s = _
    simp only [execAnswerWait, active_of_on hon hcom, found_listed hrec hn, if_pos hwaits]
  refine ⟨fun hfew => ?_, fun hlast => ?_⟩
  · rw [hexec, State.waitRunsOut, if_pos (by exact hfew), State.onSettle, update_listed hrec hn]
    rfl
  · intro u
    rw [hexec, State.waitRunsOut, if_neg (by exact Nat.not_lt.2 hlast), strand_listed hrec hn, withdrawGive_line]
    rfl

/-! ### Incoming GIVEs -/

/-- The caller hears the outcome of a credit GIVE (R127). -/
theorem giveOutcome_eq (s : State) (g : Station) (r : GiveResult) :
    s.giveOutcome g r = { s with bal := s.bal.afterGive g (r == .credited) } := by
  unfold State.giveOutcome Balancer.afterGive
  cases s.bal.caller with
  | idle => rfl
  | calling => rfl
  | taking k asked =>
    by_cases hk : k = g
    · cases r <;> simp only [if_pos hk] <;> rfl
    · simp only [if_neg hk]

theorem judge_newer {entry : Option Receipt} {serial : BitVec 16}
    (h : ∀ e, entry = some e → 1 ≤ (serial - e.serial).toNat ∧ (serial - e.serial).toNat ≤ 32767) :
    judge entry serial = .newer := by
  cases entry with
  | none => rfl
  | some e => exact (judge_cases e serial).2.1 (h e rfl).1 (h e rfl).2

/-- The credit receipt's caps (R10). -/
theorem receiptOver_iff (s : State) (n : Nat) :
    s.receiptOver n = true ↔ 9999999 < s.acct.credit + n + s.acct.held + s.openOut ∨
      2 ^ 48 - 1 < s.acct.loaded + s.acct.taken + s.acct.reclaimed + s.openOut + n := by
  have hsum : s.committedCredit + n = s.acct.credit + n + s.acct.held + s.openOut := by
    rw [State.committedCredit]
    omega
  rw [State.receiptOver, Bool.or_eq_true, decide_eq_true_eq, decide_eq_true_eq, hsum]
  rfl

/-- A GIVE that is voided: its entry, LIMIT when it passed a cap, and VOID (R152). -/
theorem voidGive_eq (s : State) (g : Station) (serial : BitVec 16) (limit : Bool) :
    (if limit then s.setLimit else s).voidGive g serial = State.place (.reply .void (BitVec.ofNat 8 g.val) serial) { s with
      acct := { s.acct with limit := s.acct.limit || limit },
      settle := { s.settle with
        receipts := s.settle.receipts.set g.slot (some { serial := serial, verdict := .voided }) } } := by
  cases limit with
  | false => rw [Bool.or_false]; rfl
  | true => rw [Bool.or_true]; rfl

theorem place_bal (s : State) (p : Payload) : (s.place p).bal = s.bal := by rw [place_line]

/-- The tests of a stock receipt on an existing denomination (R80). -/
theorem judgeStock_exists (s : State) {index : Nat} {d : Fin 16} (h : s.denomAt index = some d) (count face : Nat) :
    s.judgeStock index count face =
      if s.face d ≠ face then .mismatch
      else if 65535 < s.stock[d].onHand + s.openStock d + count ∨ 4294967295 < s.stockTotal d + count then .capped
      else .accepted d := by
  simp only [State.judgeStock, h, overStock_iff, Nat.add_right_comm]

section
variable {g : Station} {serial : BitVec 16} {body : GiveBody}

theorem takeGive_equal {v : Verdict} (h : judge (s.receipt g) serial = .equal v) :
    s.takeGive g serial body = s.reply (if v = .received then .got else .void) g serial := by
  cases v <;> simp only [State.takeGive, h] <;> rfl

/-- A newer GIVE while PARKED or without journal space (R149, R150). -/
theorem takeGive_deferred (h : judge (s.receipt g) serial = .newer) (hno : s.ctl.state = .parked ∨ s.spaceForEntry = false) :
    s.takeGive g serial body = s.deferGive g serial body := by
  simp only [State.takeGive, h]
  by_cases hp : s.ctl.state = .parked
  · exact if_pos hp
  · rw [if_neg hp, if_pos (hno.resolve_left hp)]

variable (h : judge (s.receipt g) serial = .newer) (hpark : s.ctl.state ≠ .parked) (hspace : s.spaceForEntry = true)
include h hpark hspace

theorem takeGive_credit (amount : BitVec 32) :
    s.takeGive g serial (.credit amount) = s.newCredit g serial amount.toNat := by
  have hspace' : ¬ s.spaceForEntry = false := by rw [hspace]; decide
  simp only [State.takeGive, h, if_neg hpark, if_neg hspace']

theorem takeGive_stock (index : BitVec 4) (count face : BitVec 16) :
    s.takeGive g serial (.stock index count face) = s.newStock g serial index.toNat count.toNat face.toNat := by
  have hspace' : ¬ s.spaceForEntry = false := by rw [hspace]; decide
  simp only [State.takeGive, h, if_neg hpark, if_neg hspace']

end

theorem with_bal_self {t : State} {b : Balancer} (h : t.bal = b) : { t with bal := b } = t := by
  subst h
  rfl

theorem deferGive_eq (s : State) (g : Station) (serial : BitVec 16) (body : GiveBody) :
    s.deferGive g serial body = { s.place (.reply .defer (BitVec.ofNat 8 g.val) serial) with
      bal := match body with
        | .credit _ => s.bal.afterGive g false
        | .stock _ _ _ => s.bal } := by
  cases body with
  | credit a =>
    refine (giveOutcome_eq _ g .deferred).trans ?_
    rw [State.reply, place_bal]
    rfl
  | stock d c f => exact (with_bal_self (place_bal s _)).symm

/-- Settles O51: the judgement of the serial, then the tests of the newer GIVE in their order. -/
theorem incomingGiveIsJudgedInOrder : Obligations.IncomingGiveIsJudgedInOrder := by
  intro g dest serial body s hon hcom hto u answer newer entered voided
  have hexec : ∀ {t}, u.takeGive g serial body = t → exec .giveFrame s = .next t := by
    rintro t rfl
    show execGiveFrame s = _
    simp only [execGiveFrame, active_of_on hon hcom, hto]
    rfl
  have hvoid : ∀ limit, u.takeGive g serial body = (if limit then u.setLimit else u).voidGive g serial →
      voided limit s.bal := by
    intro limit h
    refine hexec (h.trans ((voidGive_eq u g serial limit).trans ?_))
    exact (with_bal_self (place_bal _ _)).symm
  have hvoidCredit : ∀ limit, u.takeGive g serial body =
      ((if limit then u.setLimit else u).voidGive g serial).giveOutcome g .voided → voided limit (s.bal.afterGive g false) := by
    intro limit h
    refine hexec (h.trans ((giveOutcome_eq _ g .voided).trans ?_))
    rw [voidGive_eq u g serial limit, place_bal]
    rfl
  refine ⟨fun e he hold => hexec ?_, fun e he hser => hexec ?_, fun hnew hno => hexec ?_,
    fun hnew hpark hspace => ⟨fun amount hbody => ?_, fun index count face hbody => ?_⟩⟩
  · have hj : judge (u.receipt g) serial = .older := by
      have hu : u.receipt g = some e := he
      rw [hu]
      exact (judge_cases e serial).2.2 hold
    simp only [State.takeGive, hj]
  · have hj : judge (u.receipt g) serial = .equal e.verdict := by
      have hu : u.receipt g = some e := he
      rw [hu]
      exact (judge_cases e serial).1 hser
    exact takeGive_equal hj
  · exact (takeGive_deferred (s := u) (judge_newer hnew) hno).trans (deferGive_eq u g serial body)
  · intro n credit
    subst hbody
    have htake := takeGive_credit (s := u) (g := g) (judge_newer hnew) hpark hspace amount
    rw [State.newCredit] at htake
    split
    · rename_i hzero
      rw [if_pos (by exact hzero)] at htake
      exact hvoidCredit false htake
    rename_i hzero
    rw [if_neg (by exact hzero)] at htake
    split
    · rename_i hcap
      rw [if_pos ((receiptOver_iff u n).2 hcap)] at htake
      exact hvoidCredit true htake
    · rename_i hcap
      rw [if_neg (mt (receiptOver_iff u n).1 hcap)] at htake
      refine hexec (htake.trans ((giveOutcome_eq _ g .credited).trans ?_))
      rw [State.reply, place_bal, receiveCredit_eq, place_line, place_line]
      rfl
  · intro n
    subst hbody
    have htake := takeGive_stock (s := u) (g := g) (judge_newer hnew) hpark hspace index count face
    rw [State.newStock] at htake
    refine ⟨fun hno => hvoid false ?_, fun d hd hexists hone => ?_⟩
    · rw [htake]
      by_cases hzero : count.toNat = 0
      · exact if_pos hzero
      · have habsent : u.denomAt index.toNat = none := State.denomAt_of_absent (hno.resolve_left hzero)
        simp only [if_neg hzero, State.judgeStock, habsent]
        rfl
    · intro x
      have hdenom : u.denomAt index.toNat = some d := hd ▸ State.denomAt_of_exists hexists
      rw [if_neg (Nat.ne_of_gt hone), judgeStock_exists u hdenom] at htake
      split
      · rename_i hface
        rw [if_pos (by exact hface)] at htake
        exact hvoid false htake
      rename_i hface
      rw [if_neg (by exact hface)] at htake
      split
      · rename_i hcap
        rw [if_pos (by exact hcap)] at htake
        exact hvoid true htake
      · rename_i hcap
        rw [if_neg (by exact hcap)] at htake
        refine hexec (htake.trans ?_)
        exact congrArg (State.place (answer .got)) (receiveStock_eq u g serial d n)

/-! ### Answers at the giver -/

/-- No record matches (R144). -/
theorem matched_none {k : Station} {serial : BitVec 16} (h : ∀ r ∈ s.settle.records, r.receiver = k → r.serial ≠ serial) :
    s.matched k serial = none := by
  rw [State.matched, List.find?_eq_none]
  intro r hr his
  obtain ⟨hk, hs⟩ := Bool.and_eq_true_iff.1 his
  exact h r hr (beq_iff_eq.1 hk) (beq_iff_eq.1 hs)

/-- GOT and HAVE ask to settle, VOID and NOHAVE to restore (R144). -/
theorem exec_answer {k : Station} {serial : BitVec 16} {dest : Byte} {kind : ReplyKind} {c : Instr} (hon : s.power = .on)
    (hcom : s.ctl.state ≠ .unconfigured) (hto : s.line.toSettlement = some { sender := k, payload := .reply kind dest serial })
    (hc : (kind, c) ∈ [(ReplyKind.got, Instr.gotFrame), (.haveIt, .haveFrame), (.void, .voidFrame), (.nohave, .nohaveFrame)]) :
    exec c s = .next (if kind = .got ∨ kind = .haveIt then (s.frameTakenBy .settlement).answerSettles k serial
      else (s.frameTakenBy .settlement).answerRestores k serial) := by
  have hactive := active_of_on hon hcom
  simp only [List.mem_cons, Prod.mk.injEq, List.not_mem_nil, or_false] at hc
  rcases hc with ⟨rfl, rfl⟩ | ⟨rfl, rfl⟩ | ⟨rfl, rfl⟩ | ⟨rfl, rfl⟩
  · show execGotFrame s = _
    simp only [execGotFrame, hactive, hto]
    rfl
  · show execHaveFrame s = _
    simp only [execHaveFrame, hactive, hto]
    rfl
  · show execVoidFrame s = _
    simp only [execVoidFrame, hactive, hto]
    rfl
  · show execNohaveFrame s = _
    simp only [execNohaveFrame, hactive, hto]
    rfl

/-- An answer while PARKED, or to no open record, changes nothing (R144). -/
theorem answer_ignored {k : Station} {serial : BitVec 16}
    (h : s.ctl.state = .parked ∨ ∀ r ∈ s.settle.records, r.receiver = k → r.serial ≠ serial) :
    s.answerSettles k serial = s ∧ s.answerRestores k serial = s := by
  rcases h with hparked | hnone
  · rw [State.answerSettles, State.answerRestores]
    cases s.matched k serial with
    | none => exact ⟨rfl, rfl⟩
    | some r => exact ⟨if_pos hparked, if_pos hparked⟩
  · rw [State.answerSettles, State.answerRestores, matched_none hnone]
    exact ⟨rfl, rfl⟩

/-- Settles O52. -/
theorem answersSettleOrRestore : Obligations.AnswersSettleOrRestore := by
  intro k serial dest kind c s hon hcom hto hc u
  have hexec := exec_answer hon hcom hto hc
  refine ⟨fun hidle => ?_, fun a b r hpark hrec hn hk hserial => ?_⟩
  · obtain ⟨h1, h2⟩ := answer_ignored (s := u) hidle
    rw [hexec, h1, h2, ite_self]
  · intro v closed
    subst hk hserial
    have hmatched : u.matched r.receiver r.serial = some r := matched_listed (s := u) hrec hn
    have hsettles : u.answerSettles r.receiver r.serial = u.settleRecord r := by
      simp only [State.answerSettles, hmatched]
      exact if_neg hpark
    have hrestores : u.answerRestores r.receiver r.serial = u.restoreRecord r := by
      simp only [State.answerRestores, hmatched]
      exact if_neg hpark
    rw [hsettles, hrestores] at hexec
    have hwithout : u.settle.without r = { s.settle with records := a ++ b } := without_listed (s := u) hrec hn
    cases hbody : r.body with
    | credit g =>
      rw [settleRecord_credit u hbody, restoreRecord_credit u hbody, hwithout] at hexec
      dsimp only
      split
      · rename_i hgot
        exact hexec.trans (congrArg _ (if_pos hgot))
      · rename_i hgot
        exact hexec.trans (congrArg _ (if_neg hgot))
    | stock d n f =>
      rw [settleRecord_stock u hbody, restoreRecord_stock u hbody, hwithout] at hexec
      dsimp only
      split
      · rename_i hgot
        exact hexec.trans (congrArg _ (if_pos hgot))
      · rename_i hgot
        exact hexec.trans (congrArg _ (if_neg hgot))

/-! ### DEFER and QUERY -/

theorem exec_defer {k : Station} {serial : BitVec 16} {dest : Byte} (hon : s.power = .on) (hcom : s.ctl.state ≠ .unconfigured)
    (hto : s.line.toSettlement = some { sender := k, payload := .reply .defer dest serial }) :
    exec .deferFrame s = .next ((s.frameTakenBy .settlement).answerDefers k serial) := by
  show execDeferFrame s = _
  simp only [execDeferFrame, active_of_on hon hcom, hto]

section
variable {g : Station} {serial : BitVec 16}

theorem takeQuery_equal {v : Verdict} (h : judge (s.receipt g) serial = .equal v) :
    s.takeQuery g serial = s.reply (if v = .received then .haveIt else .nohave) g serial := by
  cases v <;> simp only [State.takeQuery, h] <;> rfl

theorem takeQuery_newer (h : judge (s.receipt g) serial = .newer) :
    s.takeQuery g serial = (s.setReceipt g serial .voided).reply .nohave g serial := by
  simp only [State.takeQuery, h]

end

/-- Settles O53. -/
theorem deferStrandsAndQueryIsAnswered : Obligations.DeferStrandsAndQueryIsAnswered := by
  refine ⟨fun a b r dest s hon hcom hrec hn hto => ?_, fun k dest serial s hon hcom hto hnone => ?_,
    fun g dest serial s hon hcom hto => ?_⟩
  · have hmatched : (s.frameTakenBy .settlement).matched r.receiver r.serial = some r :=
      matched_listed (s := s.frameTakenBy .settlement) hrec hn
    have hdefers : (s.frameTakenBy .settlement).answerDefers r.receiver r.serial =
        if r.state = .unsettled then (s.frameTakenBy .settlement).strand r else s.frameTakenBy .settlement := by
      simp only [State.answerDefers, hmatched]
    rw [exec_defer hon hcom hto, hdefers]
    refine ⟨fun hstranded => ?_, fun hun => ?_⟩
    · rw [if_neg (by rw [hstranded]; decide)]
    · intro u
      rw [if_pos hun, strand_listed (s := s.frameTakenBy .settlement) hrec hn]
      rfl
  · rw [exec_defer hon hcom hto, State.answerDefers, matched_none (s := s.frameTakenBy .settlement) hnone]
  · intro u answer
    have hexec : ∀ {t}, u.takeQuery g serial = t → exec .queryFrame s = .next t := by
      rintro t rfl
      show execQueryFrame s = _
      simp only [execQueryFrame, active_of_on hon hcom, hto]
      rfl
    refine ⟨fun e he hold => hexec ?_, fun e he hser => hexec ?_, fun hnew => hexec ?_⟩
    · have hj : judge (u.receipt g) serial = .older := by
        have hu : u.receipt g = some e := he
        rw [hu]
        exact (judge_cases e serial).2.2 hold
      simp only [State.takeQuery, hj]
    · have hj : judge (u.receipt g) serial = .equal e.verdict := by
        have hu : u.receipt g = some e := he
        rw [hu]
        exact (judge_cases e serial).1 hser
      exact takeQuery_equal hj
    · exact takeQuery_newer (s := u) (judge_newer hnew)

end Sys2Proof.Machine
end

section
/-! PROOFS. Station control and the day: PARK, RESUME, notices, SET_DAY and the day advance (R163 to R176). -/

namespace Sys2Proof.Machine

variable {s : State}

/-! ### PARK, RESUME and notices -/

theorem workClosed_eq_false (s : State) :
    s.workClosed = false ↔ ¬(s.resv.table = [] ∧ ∀ r ∈ s.settle.records, r.state = .stranded) := by
  rw [← workClosed_iff, Bool.not_eq_true]

/-- A notice that finds open work changes nothing (R164). -/
theorem notice_open (h : s.workClosed = false) : s.notice = s :=
  if_neg fun hc => Bool.false_ne_true (h.symm.trans hc.2)

/-- A notice of closed work brings a PARKING station to PARKED (R164). -/
theorem notice_closed (hparking : s.ctl.state = .parking) (h : s.workClosed = true) :
    s.notice = { s with ctl := { s.ctl with state := .parked, image := s.parkImage s.activeGeneration } } :=
  if_pos ⟨hparking, h⟩

/-- An ACTIVE station that takes PARK, before the notice (R134, R163). -/
def State.parkingNow (s : State) : State :=
  { s with ctl := { s.ctl with state := .parking }, bal := s.bal.abandoned }

theorem park_active (h : s.ctl.state = .active) : s.park = s.parkingNow.notice := if_pos h

theorem park_idle (h : s.ctl.state ≠ .active) : s.park = s := if_neg h

theorem unsettledCount_eq (s : State) :
    s.unsettledCount = (s.settle.records.filter (·.state == .unsettled)).length := List.countP_eq_length_filter

/-- PARK as a taken request. -/
theorem exec_park (hready : s.ready) (hcom : s.ctl.state ≠ .unconfigured) {t : State}
    (h : (s.accepting .park (some true)).park = t) :
    exec (.park true) s = .next { t with host := { t.host with
      answer := some (.result .ok (t.ctl.state.code :: beBytes 1 t.resv.table.length ++ beBytes 1 t.unsettledCount)) } } := by
  subst h
  exact exec_supervisor .park rfl hready (if_neg hcom)

theorem park_answers (hready : s.ready) (hcom : s.ctl.state ≠ .unconfigured) :
    ∃ t, exec (.park true) s = .next t ∧
      t.host = s.host.took .park (some true) (.result .ok ([t.ctl.state.code] ++ beBytes 1 s.resv.table.length ++
        beBytes 1 (s.settle.records.filter (·.state == .unsettled)).length)) ∧
      (if s.ctl.state = .active then
        t.bal = s.bal.abandoned ∧ t.ctl.config = s.ctl.config ∧
        (if s.resv.table = [] ∧ (∀ r ∈ s.settle.records, r.state = .stranded) then
          t.ctl.state = .parked ∧ s.entryImage s.activeGeneration t.ctl.image
        else t.ctl.state = .parking ∧ t.ctl.image = s.ctl.image)
      else t.bal = s.bal ∧ t.ctl = s.ctl) ∧
      { t with ctl := s.ctl, bal := s.bal, host := s.host } = s := by
  let u : State := s.accepting .park (some true)
  rw [← unsettledCount_eq]
  by_cases hactive : s.ctl.state = .active
  · simp only [if_pos hactive]
    by_cases hclosed : s.resv.table = [] ∧ ∀ r ∈ s.settle.records, r.state = .stranded
    · simp only [if_pos hclosed]
      have hpark := (park_active (s := u) hactive).trans (notice_closed (s := u.parkingNow) rfl ((workClosed_iff _).2 hclosed))
      exact ⟨_, exec_park hready hcom hpark, rfl, ⟨rfl, rfl, rfl, parkImage_entry u.parkingNow _⟩, rfl⟩
    · simp only [if_neg hclosed]
      have hpark := (park_active (s := u) hactive).trans (notice_open (s := u.parkingNow) ((workClosed_eq_false _).2 hclosed))
      exact ⟨_, exec_park hready hcom hpark, rfl, ⟨rfl, rfl, rfl, rfl⟩, rfl⟩
  · simp only [if_neg hactive]
    exact ⟨_, exec_park hready hcom (park_idle (s := u) hactive), rfl, ⟨rfl, rfl⟩, rfl⟩

theorem resume_answers (hready : s.ready) (hcom : s.ctl.state ≠ .unconfigured) :
    exec (.resume true) s = .next { s with
      ctl := if s.ctl.state = .active then s.ctl else { s.ctl with state := .active, image := [] },
      host := s.host.took .resume (some true) (.result .ok [s.ctl.state.code, 1]) } := by
  let u : State := s.accepting .resume (some true)
  have hrun : runRequest true .resume u = (u.resume, .result .ok [u.ctl.state.code, u.resume.ctl.state.code]) := if_neg hcom
  by_cases hactive : s.ctl.state = .active
  · have hresume : u.resume = u := if_neg (by
      show ¬(s.ctl.state = .parking ∨ s.ctl.state = .parked)
      rw [hactive]
      decide)
    have hcode : s.ctl.state.code = 1 := congrArg StationState.code hactive
    have hcode' : u.ctl.state.code = 1 := hcode
    rw [hresume, hcode'] at hrun
    rw [if_pos hactive, hcode]
    exact exec_supervisor .resume rfl hready hrun
  · have hresume : u.resume = { u with ctl := { u.ctl with state := .active, image := [] } } := if_pos (by
      show s.ctl.state = .parking ∨ s.ctl.state = .parked
      cases h : s.ctl.state with
      | unconfigured => exact absurd h hcom
      | active => exact absurd h hactive
      | parking => exact .inl rfl
      | parked => exact .inr rfl)
    rw [if_neg hactive]
    rw [hresume] at hrun
    exact exec_supervisor .resume rfl hready hrun

/-- Settles O54. -/
theorem parkAndResumeActByState : Obligations.ParkAndResumeActByState := by
  refine ⟨fun s hready hcom => ⟨park_answers hready hcom, resume_answers hready hcom⟩, fun s => ?_, rfl⟩
  split
  · rename_i h
    obtain ⟨hparking, hclosed⟩ := h
    exact ⟨_, parkImage_entry s _, notice_closed hparking ((workClosed_iff s).2 hclosed)⟩
  · rename_i h
    exact if_neg fun hc => h ⟨hc.1, (workClosed_iff s).1 hc.2⟩

/-! ### The day -/

/-- The alerts of a day event: INSPECTION_DUE when the count comes to N, TARIFF_SWITCHED with a switch (R35, R176). -/
def State.dayAlerts (s : State) (day count : Nat) : AlertStore := { s.host.alerts with
  inspectionDue := s.host.alerts.inspectionDue ||
    (s.time.inspection < s.ctl.config.inspectDays.value && s.ctl.config.inspectDays.value ≤ count),
  tariffSwitched := s.host.alerts.tariffSwitched || s.tariff.dueOn day }

/-- The inspection count some days later, at most N + G (R176). -/
def State.countAfter (s : State) (days : Nat) : Nat :=
  min (s.time.inspection + days) (s.ctl.config.inspectDays.value + s.ctl.config.graceDays.value)

theorem setDay_eq (s : State) (day seconds : Nat) :
    s.setDay day seconds = { s with
      time := { s.time with
        day := day, lastRecorded := day, seconds := seconds, subMs := 0, timeLost := false,
        inspection := s.countAfter (day - s.time.lastRecorded) },
      tariff := if s.tariff.dueOn day then s.tariff.switched else s.tariff,
      host := { s.host with alerts := s.dayAlerts day (s.countAfter (day - s.time.lastRecorded)) } } := by
  have hraise : s.raiseInspection (day - s.time.lastRecorded) = _ := raiseInspection_eq s _
  rw [State.setDay, hraise, tariffDay_eq]
  rfl

theorem dayAdvance_eq (s : State) :
    s.dayAdvance = { s with
      time := { s.time with
        seconds := 0, subMs := 0, day := min (s.time.day + 1) 65535, lastRecorded := min (s.time.day + 1) 65535,
        inspection := s.countAfter 1 },
      tariff := if s.tariff.dueOn (min (s.time.day + 1) 65535) then s.tariff.switched else s.tariff,
      host := { s.host with alerts := s.dayAlerts (min (s.time.day + 1) 65535) (s.countAfter 1) } } := by
  have hraise : ∀ u : State, u.raiseInspection 1 = _ := fun u => raiseInspection_eq u 1
  rw [State.dayAdvance, hraise, tariffDay_eq]
  rfl

/-- Settles O55. -/
theorem daysAreSetAndAdvance : Obligations.DaysAreSetAndAdvance := by
  intro s hon hcom n lapse alerts tariff
  have hexec : exec .dayAdvance s = .next (if s.dayRuns then (if s.powered then s.dayAdvance else s.dayOnBackup) else s) := rfl
  refine ⟨fun day seconds hrdy hseconds hlost hday => ?_, fun hlost hvalid => ?_, fun hlost => ?_⟩
  · intro count
    let u : State := s.accepting (.setDay day seconds) (some true)
    have hrun : runRequest true (.setDay day seconds) u = (u.setDay day.toNat seconds.toNat,
        .setDayReport (u.setDay day.toNat seconds.toNat).time.day (u.setDay day.toNat seconds.toNat).time.inspection
          (u.setDay day.toNat seconds.toNat).inspection) := by
      have hlost' : ¬ u.time.timeLost = false := by
        show ¬ s.time.timeLost = false
        rw [hlost]
        decide
      exact (if_neg hcom).trans ((if_neg (Nat.not_lt.2 hseconds)).trans ((if_neg hlost').trans
        (if_neg (Nat.not_lt.2 hday))))
    rw [setDay_eq] at hrun
    exact exec_supervisor (.setDay day seconds) rfl ⟨hon, hrdy⟩ hrun
  · intro count day
    have hruns : s.dayRuns = true := by
      rw [State.dayRuns, committed_of_ne hcom, hlost, hvalid]
      rfl
    rw [hexec, if_pos hruns, if_pos (powered_of_on hon), dayAdvance_eq]
    rfl
  · have hruns : ¬ s.dayRuns = true := by
      rw [State.dayRuns, hlost, Bool.not_true, Bool.and_false, Bool.false_and]
      exact Bool.false_ne_true
    rw [hexec, if_neg hruns]

end Sys2Proof.Machine
end

section
/-! PROOFS. The resets of a committed station (R15, R23, R37, R67, R99, R121, R137, R160, R170, R173, R186). -/

namespace Sys2Proof.Machine

variable {s : State}

/-! ### The timebase of a reset -/

/-- The timebase after the test of the mark: a lost one, at a power-on reset, sets the last recorded day and TIME_LOST
(R173). -/
def Timebase.marked (t : Timebase) (powerOn : Bool) : Timebase :=
  if powerOn = true ∧ t.valid = false then
    { t with day := t.lastRecorded, seconds := 0, subMs := 0, timeLost := true, valid := true }
  else t

/-- The timebase after the catch-up: the days counted since the last recorded one are recorded and join the count (R173). -/
def State.caughtUp (s : State) (t : Timebase) : Timebase :=
  if t.timeLost = false ∧ t.lastRecorded < t.day then
    { t with
      lastRecorded := t.day,
      inspection := min (t.inspection + (t.day - t.lastRecorded))
        (s.ctl.config.inspectDays.value + s.ctl.config.graceDays.value) }
  else t

theorem markTest_committed (hcom : s.ctl.state ≠ .unconfigured) (powerOn : Bool) :
    (if powerOn then s.markTest else s) = { s with time := s.time.marked powerOn } := by
  unfold State.markTest Timebase.marked
  rw [committed_of_ne hcom]
  cases powerOn with
  | false => rfl
  | true =>
    cases hv : s.time.valid with
    | true => rfl
    | false => rfl

theorem catchUp_eq (s : State) :
    s.catchUp = { s with
      time := s.caughtUp s.time,
      host := { s.host with alerts := { s.host.alerts with
        inspectionDue := s.host.alerts.inspectionDue ||
          (decide (s.time.inspection < s.ctl.config.inspectDays.value) &&
            decide (s.ctl.config.inspectDays.value ≤ (s.caughtUp s.time).inspection)) } } } := by
  unfold State.catchUp State.caughtUp
  split
  · have hraise : s.raiseInspection (s.time.day - s.time.lastRecorded) = _ := raiseInspection_eq s _
    rw [hraise]
    rfl
  · have hsame : (decide (s.time.inspection < s.ctl.config.inspectDays.value) &&
        decide (s.ctl.config.inspectDays.value ≤ s.time.inspection)) = false := by
      rw [Bool.and_eq_false_iff, decide_eq_false_iff_not, decide_eq_false_iff_not]
      omega
    rw [hsame, Bool.or_false]

theorem tariffReset_eq (s : State) :
    s.tariffReset = { s with
      tariff := if s.time.timeLost = false ∧ s.tariff.dueOn s.time.day = true then s.tariff.switched else s.tariff,
      host := { s.host with alerts := { s.host.alerts with
        tariffSwitched := s.host.alerts.tariffSwitched || (!s.time.timeLost && s.tariff.dueOn s.time.day) } } } := by
  unfold State.tariffReset
  cases hlost : s.time.timeLost with
  | true => simp
  | false =>
    rw [if_neg Bool.false_ne_true, tariffDay_eq]
    simp

/-! ### The closures of a reset -/

/-- What a reset of a committed station latches again or anew (R173, R186). -/
def State.resetAlerts (s : State) (time : Timebase) : AlertStore := { AlertStore.clear with
  lowCredit := s.standing.short, stranded := !s.settle.records.isEmpty, reservationExpired := !s.resv.table.isEmpty,
  inspectionDue := decide (s.time.inspection < s.ctl.config.inspectDays.value) &&
    decide (s.ctl.config.inspectDays.value ≤ time.inspection),
  tariffSwitched := !time.timeLost && s.tariff.dueOn time.day }

/-- A committed station after the reset work of every block, with this timebase, before station control looks at its state
(R15, R23, R37, R67, R121, R137, R160, R186). -/
def State.resetDone (s : State) (time : Timebase) : State := { s with
  host := { HostPort.initial with rdy := false, alerts := s.resetAlerts time },
  acct := { s.acct with held := s.acct.held - heldBy s.resv.table, used := s.acct.used + heldBy s.resv.table },
  tariff :=
    { (if time.timeLost = false ∧ s.tariff.dueOn time.day = true then s.tariff.switched else s.tariff) with assembly := none },
  resv := {
    table := [], nextId := 1, elapsedMs := 0,
    totals := (s.resv.table.flatMap Reservation.grantedItems).foldl (fun t i => printedIn t i.cls i.value) s.resv.totals },
  line := LineController.started s.ctl.config.station, bal := Balancer.initial,
  settle := { s.settle with records := s.settle.records.map OutRecord.stranded },
  time := time, power := .on, incomplete := false }

/-- The alerts of the closures. -/
def State.closedAlerts (s : State) : AlertStore := { AlertStore.clear with
  lowCredit := s.standing.short, stranded := !s.settle.records.isEmpty, reservationExpired := !s.resv.table.isEmpty }

theorem any_stranded (records : List OutRecord) :
    (records.map OutRecord.stranded).any (fun r => r.state == .stranded) = !records.isEmpty := by
  cases records <;> rfl

/-- A committed station after its rebuilding and its strands (R15, R121, R137, R160). -/
def State.rebuilt (s : State) : State := { s with
  host := { HostPort.initial with rdy := false }, tariff := { s.tariff with assembly := none },
  line := LineController.started s.ctl.config.station, bal := Balancer.initial,
  settle := { s.settle with records := s.settle.records.map OutRecord.stranded }, power := .on, incomplete := false }

theorem rebuild_committed (hcom : s.ctl.state ≠ .unconfigured) : s.rebuild.strandAll = s.rebuilt := by
  rw [State.rebuild, committed_of_ne hcom]
  rfl

theorem relatch_committed (hcom : s.ctl.state ≠ .unconfigured) :
    s.rebuilt.relatch = { s.rebuilt with host := { HostPort.initial with
      rdy := false,
      alerts := { AlertStore.clear with lowCredit := s.standing.short, stranded := !s.settle.records.isEmpty } } } := by
  have hany : (s.rebuilt.settle.records.any fun r => r.state == .stranded) = !s.settle.records.isEmpty :=
    any_stranded s.settle.records
  have hshort : s.rebuilt.standing.short = s.standing.short := rfl
  rw [State.relatch, if_pos (by exact committed_of_ne hcom), latchIf_eq, latchIf_eq, hany, hshort]
  cases s.settle.records.isEmpty <;> cases s.standing.short <;> rfl

theorem resetClosed_committed (hcom : s.ctl.state ≠ .unconfigured) :
    s.resetClosed = { s.rebuilt with
      host := { HostPort.initial with rdy := false, alerts := s.closedAlerts },
      acct := { s.acct with held := s.acct.held - heldBy s.resv.table, used := s.acct.used + heldBy s.resv.table },
      resv := {
        table := [], nextId := 1, elapsedMs := 0,
        totals := (s.resv.table.flatMap Reservation.grantedItems).foldl (fun t i => printedIn t i.cls i.value)
          s.resv.totals } } := by
  rw [State.resetClosed, rebuild_committed hcom, relatch_committed hcom, closeReservations_eq]
  have halerts : ∀ a : AlertStore, a = { AlertStore.clear with
      lowCredit := s.standing.short, stranded := !s.settle.records.isEmpty } →
      (if !s.resv.table.isEmpty then a.latch .reservationExpired else a) = s.closedAlerts := by
    rintro a rfl
    unfold State.closedAlerts
    cases s.resv.table.isEmpty <;> rfl
  rw [← halerts _ rfl]
  rfl

/-- The reset work of a committed station, before station control looks at its state. -/
theorem reset_done (hcom : s.ctl.state ≠ .unconfigured) (powerOn : Bool) :
    (if powerOn then s.resetClosed.markTest else s.resetClosed).catchUp.tariffReset =
      s.resetDone (s.caughtUp (s.time.marked powerOn)) := by
  have hmarked : (s.time.marked powerOn).inspection = s.time.inspection := by
    unfold Timebase.marked
    split <;> rfl
  rw [resetClosed_committed hcom, markTest_committed (by exact hcom), catchUp_eq, tariffReset_eq]
  have htariff : ∀ time : Timebase,
      (if time.timeLost = false ∧ s.tariff.dueOn time.day = true then
        TariffStore.switched { s.tariff with assembly := none } else { s.tariff with assembly := none }) =
      { (if time.timeLost = false ∧ s.tariff.dueOn time.day = true then s.tariff.switched else s.tariff) with
        assembly := none } := by
    intro time
    split <;> rfl
  unfold State.resetDone State.resetAlerts
  rw [← hmarked, ← htariff]
  rfl

/-! ### The whole reset -/

/-- The timebase after a reset. -/
def State.resetTime (s : State) (powerOn : Bool) : Timebase := s.caughtUp (s.time.marked powerOn)

/-- The active generation before the tariff store's reset test is the one before the reset (R37). -/
theorem reset_generation (hcom : s.ctl.state ≠ .unconfigured) (powerOn : Bool) :
    State.activeGeneration (if powerOn then s.resetClosed.markTest else s.resetClosed).catchUp = s.activeGeneration := by
  rw [resetClosed_committed hcom, markTest_committed (by exact hcom), catchUp_eq]
  rfl

theorem resetWork_committed (hcom : s.ctl.state ≠ .unconfigured) (powerOn : Bool) :
    s.resetWork powerOn =
      ((s.resetDone (s.resetTime powerOn)).parkAtReset s.activeGeneration).onHost fun h => { h with rdy := true } := by
  rw [State.resetTime, ← reset_done hcom, ← reset_generation hcom powerOn]
  rfl

theorem resetImageGeneration_either (draw before after : Nat) :
    resetImageGeneration draw before after = before ∨ resetImageGeneration draw before after = after := by
  unfold resetImageGeneration
  split
  · exact .inr rfl
  · split
    · exact .inl rfl
    · exact .inr rfl

/-- The self entry has no roll content, every other station is unheard (R121). -/
theorem started_peer (own : Option Station) (j : Station) :
    (LineController.started own).peers[j.slot] =
      { presence := if own = some j then .self else .unheard, silence := 0, roll := none } := by
  have hunheard : LineController.inactive.peers[j.slot] = { presence := .unheard, silence := 0, roll := none } :=
    Vector.getElem_replicate j.slot.isLt
  cases own with
  | none => exact hunheard
  | some k =>
    by_cases h : k = j
    · subst h
      rw [if_pos rfl]
      exact Vector.getElem_set_self k.slot.isLt
    · rw [if_neg fun he => h (Option.some.inj he)]
      exact (peer_set_ne (fun he => h he.symm) _).trans hunheard

/-- RESETN held low: the time of day counts on where the day runs (R173). -/
theorem holdReset_counted (hcom : s.ctl.state ≠ .unconfigured) :
    ∃ draws, s.holdReset = { s with
      freeDraws := draws,
      time := if s.time.timeLost = true ∨ s.time.valid = false then s.time
        else s.time.countOn (Sys2Proof.Config.resetHeldMs s.freeDraws) } := by
  rw [holdReset_eq]
  refine ⟨if s.dayRuns then s.freeDraws + 1 else s.freeDraws, ?_⟩
  have htime : (if s.dayRuns then s.time.countOn (Sys2Proof.Config.resetHeldMs s.freeDraws) else s.time) =
      if s.time.timeLost = true ∨ s.time.valid = false then s.time
      else s.time.countOn (Sys2Proof.Config.resetHeldMs s.freeDraws) := by
    rw [State.dayRuns, committed_of_ne hcom]
    cases s.time.timeLost <;> cases s.time.valid <;> rfl
  rw [htime]

/-- What a reset does, from the timebase it begins with (R15, R23, R37, R67, R99, R121, R137, R160, R170, R173, R186). -/
theorem resetWork_keeps (hcom : s.ctl.state ≠ .unconfigured) (powerOn : Bool) :
    ∃ t, s.resetWork powerOn = t ∧ t.time = s.resetTime powerOn ∧ t.ctl.config = s.ctl.config ∧
      t.ctl.state = (if s.ctl.state = .parking then .parked else s.ctl.state) ∧
      (if s.ctl.state = .parking then
        ∃ g, (g = s.activeGeneration ∨ g = t.activeGeneration) ∧ t.entryImage g t.ctl.image
      else t.ctl.image = s.ctl.image) ∧
      t = { s.resetDone (s.resetTime powerOn) with
        host := { HostPort.initial with alerts := s.resetAlerts (s.resetTime powerOn) }, ctl := t.ctl,
        freeDraws := t.freeDraws } := by
  rw [resetWork_committed hcom]
  refine ⟨_, rfl, ?_⟩
  by_cases h : s.ctl.state = .parking
  · have hpark : (s.resetDone (s.resetTime powerOn)).parkAtReset s.activeGeneration = _ := if_pos h
    simp only [hpark, if_pos h]
    exact ⟨rfl, rfl, rfl, ⟨_, resetImageGeneration_either _ _ _, parkImage_entry (s.resetDone (s.resetTime powerOn)) _⟩, rfl⟩
  · have hpark : (s.resetDone (s.resetTime powerOn)).parkAtReset s.activeGeneration = _ := if_neg h
    simp only [hpark, if_neg h]
    exact ⟨rfl, rfl, rfl, rfl, rfl⟩

/-- The timebase the reset work begins with: RESETN held low counts on, a power-on reset does not (R173). -/
def State.heldTime (s : State) (powerOn : Bool) : Timebase :=
  if powerOn = true ∨ s.time.timeLost = true ∨ s.time.valid = false then s.time
  else s.time.countOn (Sys2Proof.Config.resetHeldMs s.freeDraws)

/-- The two resets of a committed station as one (R173). -/
theorem exec_reset {c : Instr} (h : (c = .resetn ∧ s.power = .on) ∨ c = .powerOnReset)
    (hcom : s.ctl.state ≠ .unconfigured) :
    ∃ (powerOn : Bool) (draws : Nat), (powerOn = true ↔ c = .powerOnReset) ∧
      exec c s = .next (State.resetWork powerOn { s with freeDraws := draws, time := s.heldTime powerOn }) := by
  rcases h with ⟨rfl, hon⟩ | rfl
  · obtain ⟨draws, hhold⟩ := holdReset_counted hcom
    refine ⟨false, draws, by simp, (congrArg Host.Outcome.next (if_pos (powered_of_on hon))).trans ?_⟩
    have hheld : s.heldTime false = if s.time.timeLost = true ∨ s.time.valid = false then s.time
        else s.time.countOn (Sys2Proof.Config.resetHeldMs s.freeDraws) := by
      simp only [State.heldTime, Bool.false_eq_true, false_or]
    rw [hhold, hheld]
  · refine ⟨true, s.freeDraws, by simp, ?_⟩
    rw [State.heldTime, if_pos (.inl rfl)]
    rfl

theorem heldTime_keeps (s : State) (powerOn : Bool) :
    (s.heldTime powerOn).timeLost = s.time.timeLost ∧ (s.heldTime powerOn).valid = s.time.valid ∧
      (s.heldTime powerOn).lastRecorded = s.time.lastRecorded ∧ (s.heldTime powerOn).inspection = s.time.inspection := by
  unfold State.heldTime
  split <;> exact ⟨rfl, rfl, rfl, rfl⟩

/-- Settles O57: the reset work on the timebase the reset begins with. -/
theorem resetsKeepValueAndRebuildTheRest : Obligations.ResetsKeepValueAndRebuildTheRest := by
  intro c s hc hcom hheld hids passed counted
  obtain ⟨powerOn, draws, hp, hexec⟩ := exec_reset hc hcom
  obtain ⟨hlost, hvalid, hrecorded, hinspection⟩ := heldTime_keeps s powerOn
  have hcounted : s.heldTime powerOn = counted := by
    unfold State.heldTime
    simp only [hp]
    rfl
  rw [hcounted] at hexec hlost hvalid hrecorded hinspection
  obtain ⟨t, ht, htime, hconfig, hstate, himage, hkeeps⟩ :=
    resetWork_keeps (s := { s with freeDraws := draws, time := counted }) hcom powerOn
  have hacct := congrArg State.acct hkeeps
  have hresv := congrArg State.resv hkeeps
  have hline := congrArg State.line hkeeps
  have htariff := congrArg State.tariff hkeeps
  have halerts := congrArg (fun u : State => u.host.alerts) hkeeps
  have hsum : heldBy s.resv.table = s.acct.held := hheld.symm
  rw [ht] at hexec
  have hmark : c = .resetn ∨ s.time.valid = true → counted.marked powerOn = counted := by
    intro hor
    refine if_neg fun hlostMark => ?_
    rcases hor with rfl | hv
    · exact nomatch hp.1 hlostMark.1
    · exact Bool.false_ne_true (hlostMark.2.symm.trans (hvalid.trans hv))
  refine ⟨t, hexec, (congrArg State.power hkeeps).trans rfl, (congrArg State.incomplete hkeeps).trans rfl,
    (congrArg State.pbusy hkeeps).trans rfl, (congrArg State.pending hkeeps).trans rfl, ?_,
    (congrArg ReservationUnit.table hresv).trans rfl, (congrArg ReservationUnit.nextId hresv).trans rfl,
    (congrArg ReservationUnit.elapsedMs hresv).trans rfl, (congrArg State.stock hkeeps).trans rfl,
    (congrArg State.journal hkeeps).trans rfl, ?_, (congrArg State.settle hkeeps).trans rfl,
    (congrArg State.bal hkeeps).trans rfl, ?_, ?_, ?_, ?_, ?_, hconfig, hstate, himage, ?_⟩
  · refine hacct.trans ?_
    show { s.acct with held := s.acct.held - heldBy s.resv.table, used := s.acct.used + heldBy s.resv.table } = _
    rw [hsum, Nat.sub_self]
  · intro hcap d
    rw [hresv]
    exact printedIn_foldl _ _ hcap d
  · rw [hline]
    rfl
  · intro j
    exact (congrArg (fun l : LineController => l.peers[j.slot]) hline).trans (started_peer _ j)
  · rintro rfl hv
    have hsame : counted = s.time := if_pos (.inl rfl)
    have hnot : ¬(counted.valid = true) := by rw [hvalid, hv]; exact Bool.false_ne_true
    have hmarked : counted.marked powerOn = { s.time with
        day := s.time.lastRecorded, seconds := 0, subMs := 0, timeLost := true, valid := true } := by
      rw [hsame]
      exact if_pos ⟨hp.2 rfl, hv⟩
    rw [htime, State.resetTime]
    show State.caughtUp _ (counted.marked powerOn) = _
    rw [hmarked]
    exact if_neg fun h => nomatch h.1
  · intro hor
    rw [htime, State.resetTime]
    show State.caughtUp _ (counted.marked powerOn) = _
    rw [hmark hor, State.caughtUp, hlost, hrecorded, hinspection]
  · rw [htariff, htime]
    rfl
  · have hhost := congrArg State.host hkeeps
    refine ⟨by rw [hhost], (congrArg AlertStore.lowCredit halerts).trans rfl,
      (congrArg AlertStore.stranded halerts).trans rfl, (congrArg AlertStore.reservationExpired halerts).trans rfl,
      (congrArg AlertStore.lineAlone halerts).trans rfl, (congrArg AlertStore.journalNearFull halerts).trans rfl,
      (congrArg AlertStore.stationClash halerts).trans rfl, (congrArg AlertStore.peerTariffNewer halerts).trans rfl, ?_, ?_⟩
    · rw [htime]
      exact (congrArg AlertStore.tariffSwitched halerts).trans rfl
    · rw [htime, ← hinspection]
      exact (congrArg AlertStore.inspectionDue halerts).trans rfl

end Sys2Proof.Machine
end

section
/-! PROOFS. The configuration: CONFIG_SET and CONFIG_COMMIT (R187, R188). -/

namespace Sys2Proof.Machine

variable {s : State}

/-! ### CONFIG_SET -/

/-- A number held as a 64-bit value keeps its eight bytes. -/
theorem beBytes_word (n : Nat) : beBytes 8 (BitVec.ofNat 64 n).toNat = beBytes 8 n := by
  have h := beBytes_natOfBytes (beBytes 8 n)
  rw [beBytes_length, natOfBytes_beBytes] at h
  rw [BitVec.toNat_ofNat]
  exact h

theorem configData_eq {item index : Byte} {v : Bool × Option (BitVec 64)}
    (h : s.ctl.config.item item.toNat index.toNat = some v) :
    s.configData item index =
      [item, index, if v.1 then 1 else 0] ++ (v.2.map fun w => beBytes 8 w.toNat).getD (s.freeBytes 8) := by
  rw [State.configData, h]
  simp only [configBytes_eq, fieldBytes_cons, fieldBytes_nil, beBytes_one, ← byte_eq_ofNat]
  cases v.1 <;> rfl

theorem configSetRequest_stored {item index : Byte} {v : BitVec 64} {d : ConfigStore}
    (hun : s.ctl.state = .unconfigured) (hitem : (s.ctl.config.item item.toNat index.toNat).isNone = false)
    (hstore : s.ctl.config.store item.toNat index.toNat v = some d) :
    configSetRequest item index v s = (s.onCtl fun u => { u with config := d },
      .result .ok ((s.onCtl fun u => { u with config := d }).configData item index)) := by
  rw [configSetRequest, if_neg (Classical.not_not.2 hun), if_neg (Bool.eq_false_iff.1 hitem), hstore]

theorem configSetRequest_refused {item index : Byte} {v : BitVec 64} (hun : s.ctl.state = .unconfigured)
    (hitem : (s.ctl.config.item item.toNat index.toNat).isNone = false)
    (hstore : s.ctl.config.store item.toNat index.toNat v = none) :
    configSetRequest item index v s = (s.drawn, .result .configInvalid (s.configData item index)) := by
  rw [configSetRequest, if_neg (Classical.not_not.2 hun), if_neg (Bool.eq_false_iff.1 hitem), hstore]

/-- A CONFIG_SET that stores its value answers the item as it then stands (R187). -/
theorem configSet_stores {item index : Byte} {v w : BitVec 64} {stored : Nat} {d : ConfigStore} (hready : s.ready)
    (hun : s.ctl.state = .unconfigured) (hitem : (s.ctl.config.item item.toNat index.toNat).isNone = false)
    (hstore : s.ctl.config.store item.toNat index.toNat v = some d)
    (hd : d.item item.toNat index.toNat = some (true, some w)) (hw : beBytes 8 w.toNat = beBytes 8 stored) :
    exec (.configSet true item index v) s = .next { s with
      ctl := { s.ctl with config := d },
      host := s.host.took (.configSet item index v) (some true) (.result .ok ([item, index, 1] ++ beBytes 8 stored)) } := by
  have hrun := configSetRequest_stored (s := s.accepting (.configSet item index v) (some true)) hun hitem hstore
  have hdata := configData_eq (s := (s.accepting (.configSet item index v) (some true)).onCtl
    fun u => { u with config := d }) hd
  rw [Option.map_some, Option.getD_some, hw] at hdata
  rw [hdata] at hrun
  exact exec_supervisor (.configSet item index v) rfl hready hrun

/-- A CONFIG_SET of a value outside the range of its item keeps the item (R187). -/
theorem configSet_refuses {item index : Byte} {v : BitVec 64} {held : Bool × Option (BitVec 64)} (hready : s.ready)
    (hun : s.ctl.state = .unconfigured) (hitem : s.ctl.config.item item.toNat index.toNat = some held)
    (hstore : s.ctl.config.store item.toNat index.toNat v = none) :
    exec (.configSet true item index v) s = .next { s with
      freeDraws := s.freeDraws + 1,
      host := s.host.took (.configSet item index v) (some true) (.result .configInvalid
        ([item, index, if held.1 then 1 else 0] ++ (held.2.map fun w => beBytes 8 w.toNat).getD (s.freeBytes 8))) } := by
  have hnone : (s.ctl.config.item item.toNat index.toNat).isNone = false := by rw [hitem]; rfl
  have hrun := configSetRequest_refused (s := s.accepting (.configSet item index v) (some true)) hun hnone hstore
  rw [configData_eq (s := s.accepting _ _) hitem] at hrun
  exact exec_supervisor (.configSet item index v) rfl hready hrun

theorem clampTo_eq (lo hi n : Nat) : clampTo lo hi n = max lo (min hi n) := rfl

/-- An accepted confirmation mode is one of the three of R48. -/
theorem confirmModeOf_listed {n : Nat} {m : ConfirmMode}
    (h : [ConfirmMode.immediate, .window, .extended][n]? = some m) : confirmModeOf n = some m ∧ m.number = n := by
  have hn : n < 3 := (List.getElem?_eq_some_iff.1 h).1
  obtain rfl | rfl | rfl : n = 0 ∨ n = 1 ∨ n = 2 := by omega
  all_goals
    cases h
    exact ⟨rfl, rfl⟩

/-- FACE i is item 14 at index i. -/
theorem faceIndex_toNat (i : Fin 16) : (BitVec.ofNat 8 i.val).toNat = i.val := by
  rw [BitVec.toNat_ofNat]; exact Nat.mod_eq_of_lt (by have := i.isLt; omega)

theorem item_face (c : ConfigStore) (i : Fin 16) :
    c.item 14 i.val = some (c.faces[i].isSome, c.faces[i].map (BitVec.ofNat 64)) := dif_pos ⟨rfl, i.isLt⟩

theorem store_face (c : ConfigStore) (i : Fin 16) (v : BitVec 64) :
    c.store 14 i.val v =
      if 1 ≤ v.toNat ∧ v.toNat ≤ 65535 then some { c with faces := c.faces.set i (some v.toNat) } else none :=
  dif_pos ⟨rfl, i.isLt⟩

/-- A value outside the range of its item is not stored (R187). -/
theorem store_outsideRange {c : ConfigStore} {p : Nat} {v : BitVec 64} (hp : p < 30)
    (h : outsideRange (itemCode p) v.toNat = true) : c.store (itemCode p) (itemIndex p) v = none := by
  by_cases hlow : p < 14
  · have hcode : itemCode p = p := by rw [itemCode]; omega
    have hindex : itemIndex p = 0 := by rw [itemIndex]; omega
    rw [hcode] at h
    rw [hcode, hindex]
    obtain rfl | rfl | rfl | rfl | rfl | rfl | rfl | rfl | rfl | rfl | rfl | rfl | rfl | rfl :=
      lt_fourteen_cases hlow
    all_goals simp [outsideRange] at h <;> simp [ConfigStore.store, stationOf, confirmModeOf, creditCap] <;> grind
  · obtain ⟨i, rfl⟩ : ∃ i : Fin 16, p = 14 + i.val := ⟨⟨p - 14, by omega⟩, by simp; omega⟩
    have hcode : itemCode (14 + i.val) = 14 := by rw [itemCode]; omega
    have hindex : itemIndex (14 + i.val) = i.val := by rw [itemIndex]; omega
    rw [hcode] at h
    rw [hcode, hindex, store_face, if_neg]
    simp [outsideRange] at h
    omega

/-! ### CONFIG_COMMIT -/

theorem facesSet_iff (c : ConfigStore) :
    c.facesSet = false ↔ ∃ i : Fin 16, i.val < c.denomCount.value ∧ c.faces[i] = none := by
  simp [ConfigStore.facesSet, List.all_eq_false]

/-- The tests of R188 as one chain. -/
theorem commitTest_eq (c : ConfigStore) : c.commitTest =
    if c.station = none then some (0 : Byte) else if c.day = none then some 12
    else if c.target.value ≤ c.low.value then some 3
    else if c.high.value ≤ c.target.value then some 5
    else if ∃ i : Fin 16, i.val < c.denomCount.value ∧ c.faces[i] = none then some 14
    else none := by
  simp only [ConfigStore.commitTest, Option.isNone_iff_eq_none, Nat.not_lt, facesSet_iff]

theorem commitTest_none {c : ConfigStore} {k : Station} {day : Nat} (hk : c.station = some k) (hday : c.day = some day)
    (hlow : c.low.value < c.target.value) (htarget : c.target.value < c.high.value)
    (hfaces : ∀ i : Fin 16, i.val < c.denomCount.value → c.faces[i] ≠ none) : c.commitTest = none := by
  rw [commitTest_eq, if_neg (by simp [hk]), if_neg (by simp [hday]), if_neg (Nat.not_le.2 hlow),
    if_neg (Nat.not_le.2 htarget), if_neg fun ⟨i, hi, hf⟩ => hfaces i hi hf]

theorem configCommitRequest_refused {item : Byte} (hun : s.ctl.state = .unconfigured)
    (h : s.ctl.config.commitTest = some item) :
    configCommitRequest s = (s, .result .configInvalid [item]) := by
  rw [configCommitRequest, if_neg (Classical.not_not.2 hun), h]

theorem configCommitRequest_accepted (hun : s.ctl.state = .unconfigured) (h : s.ctl.config.commitTest = none) :
    configCommitRequest s = (s.commit, .result .ok (beBytes 1 s.commit.stationNumber ++ [s.commit.ctl.state.code])) := by
  rw [configCommitRequest, if_neg (Classical.not_not.2 hun), h]

/-! ### The obligation -/

/-- An accepted commit (R188). -/
theorem exec_configCommit_accepted (hready : s.ready) (hun : s.ctl.state = .unconfigured) {k : Station} {day : Nat}
    (hk : s.ctl.config.station = some k) (hday : s.ctl.config.day = some day)
    (htest : s.ctl.config.commitTest = none) :
    ∃ t, exec (.configCommit true) s = .next t ∧
      t.ctl.state = .active ∧ t.ctl.image = [] ∧ t.acct = Account.zero ∧ t.tariff = TariffStore.initial ∧
      t.resv = { ReservationUnit.initial with elapsedMs := s.resv.elapsedMs } ∧
      (∀ d : Fin 16, t.stock[d] = Denom.zero) ∧ t.journal = Journal.empty ∧ t.settle = SettlementUnit.initial ∧
      t.bal = { Balancer.initial with wakes := 1 } ∧
      t.line = { LineController.inactive with rollTimer := .running 0, peers := t.line.peers } ∧
      (∀ j : Station, t.peer j = { presence := if j = k then .self else .unheard, silence := 0, roll := none }) ∧
      t.time = { seconds := 0, subMs := 0, day := day, valid := true, timeLost := false, lastRecorded := day,
                 inspection := 0 } ∧
      t.ctl.config = { s.ctl.config with faces := t.ctl.config.faces } ∧
      (∀ i : Fin 16, t.ctl.config.faces[i] =
        if i.val < s.ctl.config.denomCount.value then s.ctl.config.faces[i] else none) ∧
      t.host = HostPort.took { s.host with alerts := { s.host.alerts with lowCredit := true } } .configCommit (some true)
        (.result .ok [BitVec.ofNat 8 k.val, 1]) ∧
      t.power = .on ∧ t.pbusy = s.pbusy ∧ t.pending = s.pending := by
  have hrun := configCommitRequest_accepted (s := s.accepting .configCommit (some true)) hun htest
  have hnumber : (s.accepting .configCommit (some true)).commit.stationNumber = k.val := by
    rw [stationNumber_eq]
    exact congrArg (fun own => (own.map (·.val)).getD 0) hk
  rw [hnumber, beBytes_one] at hrun
  refine ⟨_, exec_supervisor .configCommit rfl hready hrun, rfl, rfl, rfl, rfl, rfl,
    fun d => Vector.getElem_replicate d.isLt, rfl, rfl, rfl, rfl, fun j => ?_, ?_, rfl,
    fun i => Vector.getElem_ofFn i.isLt, rfl, hready.1, rfl, rfl⟩
  · have hpeer := started_peer s.ctl.config.station j
    simp only [hk, Option.some_inj, eq_comm (a := k)] at hpeer
    exact (congrArg (fun own => (LineController.started own).peers[j.slot]) hk).trans hpeer
  · exact congrArg (fun d => Timebase.committed (d.getD 0)) hday

/-- A refused CONFIG_SET at a position of region CONFIG (R187). -/
theorem exec_configSet_outsideRange (hready : s.ready) (hun : s.ctl.state = .unconfigured) {p : Nat} {isSet : Bool}
    {value : Option Nat} {v : BitVec 64} (hlisted : s.ctl.config.listed[p]? = some (isSet, value))
    (hout : outsideRange (itemCode p) v.toNat = true) :
    ∃ held : List Byte, held.length = 8 ∧ (∀ n, value = some n → held = beBytes 8 n) ∧
      exec (.configSet true (BitVec.ofNat 8 (itemCode p)) (BitVec.ofNat 8 (itemIndex p)) v) s = .next { s with
        freeDraws := s.freeDraws + 1,
        host := s.host.took (.configSet (BitVec.ofNat 8 (itemCode p)) (BitVec.ofNat 8 (itemIndex p)) v) (some true)
          (.result .configInvalid ([BitVec.ofNat 8 (itemCode p), BitVec.ofNat 8 (itemIndex p), if isSet then 1 else 0] ++
            held)) } := by
  have hp : p < 30 := by
    have hlength : s.ctl.config.listed.length = 30 := by simp [ConfigStore.listed]
    exact hlength ▸ (List.getElem?_eq_some_iff.1 hlisted).1
  have hcode : (BitVec.ofNat 8 (itemCode p)).toNat = itemCode p := Nat.mod_eq_of_lt (by rw [itemCode]; omega)
  have hindex : (BitVec.ofNat 8 (itemIndex p)).toNat = itemIndex p := Nat.mod_eq_of_lt (by rw [itemIndex]; omega)
  have hitem : s.ctl.config.item (itemCode p) (itemIndex p) = some (isSet, value.map (BitVec.ofNat 64)) := by
    rw [item_listed, hlisted, Option.map_some]
  refine ⟨_, ?_, ?_, configSet_refuses hready hun (held := (isSet, value.map (BitVec.ofNat 64)))
    (by rw [hcode, hindex, hitem]) (by rw [hcode, hindex]; exact store_outsideRange hp hout)⟩
  · cases value <;> simp [State.freeBytes]
  · rintro n rfl
    exact beBytes_word n

/-- Settles O56: the range of each item, and the chain of R188's tests. -/
theorem configurationIsSetAndCommitted : Obligations.ConfigurationIsSetAndCommitted := by
  unfold Obligations.ConfigurationIsSetAndCommitted
  intro s hready hun
  refine ⟨fun v => ?_, fun p isSet value v => exec_configSet_outsideRange hready hun, fun item hitem => ?_,
    fun k day hk hday hlow htarget hfaces =>
      exec_configCommit_accepted hready hun hk hday (commitTest_none hk hday hlow htarget hfaces)⟩
  · have stored : ∀ {item index : Byte} {n : Nat} {d : ConfigStore},
        (s.ctl.config.item item.toNat index.toNat).isNone = false →
        s.ctl.config.store item.toNat index.toNat v = some d →
        d.item item.toNat index.toNat = some (true, some (BitVec.ofNat 64 n)) → _ :=
      fun hitem hstore hd => configSet_stores hready hun hitem hstore hd (beBytes_word _)
    refine ⟨fun k hk => ?_, fun hn => stored rfl (if_pos hn) rfl, configSet_stores hready hun rfl rfl rfl rfl,
      fun hn => ⟨stored rfl (if_pos hn) rfl, stored rfl (if_pos hn) rfl, stored rfl (if_pos hn) rfl⟩,
      stored rfl rfl rfl, stored rfl rfl rfl, fun m hm => ?_, stored rfl rfl rfl, stored rfl rfl rfl,
      stored rfl rfl rfl, fun hn => stored rfl (if_pos hn) rfl, fun hn => stored rfl (if_pos hn) rfl,
      fun i hlow hhigh => ?_⟩
    · have hstore : stationOf v.toNat = some k := by rw [← hk, stationOf_val]
      exact stored rfl (congrArg (Option.map _) hstore) (by rw [← hk]; rfl)
    · obtain ⟨hmode, hnumber⟩ := confirmModeOf_listed hm
      exact stored rfl (congrArg (Option.map _) hmode) (by rw [← hnumber]; rfl)
    · have hi := faceIndex_toNat i
      refine stored ?_ ?_ ?_
      · rw [hi]
        exact congrArg Option.isNone (item_face _ i)
      · rw [hi]
        exact (store_face _ i v).trans (if_pos ⟨hlow, hhigh⟩)
      · rw [hi]
        refine (item_face _ i).trans ?_
        exact congrArg (fun f : Option Nat => some (f.isSome, f.map (BitVec.ofNat 64))) (Vector.getElem_set_self i.isLt)
  · rw [← commitTest_eq] at hitem
    exact exec_supervisor .configCommit rfl hready (configCommitRequest_refused hun hitem)

end Sys2Proof.Machine
end

section
/-! PROOFS. The roll tick: its frames placed one after another, whatever the order of its shares (R112, R123, R154). -/

namespace Sys2Proof.Machine

variable {s : State} {l : LineController} {p : Payload}

/-! ### What one placement can do -/

/-- The last frame that waits, and those behind it in progress (R107). -/
theorem lastWaiting_eq_some {q : List TxEntry} {x : TxEntry} (h : lastWaiting q = some x) :
    ∃ a b, q = a ++ x :: b ∧ x.inProgress = false ∧ ∀ y ∈ b, y.inProgress = true := by
  obtain ⟨ws, hws⟩ := List.getLast?_eq_some_iff.1 h
  obtain ⟨a, c, rfl, -, hc⟩ := List.filter_eq_append_iff.1 hws
  obtain ⟨d, b, rfl, -, hx, hb⟩ := List.filter_eq_cons_iff.1 hc
  refine ⟨a ++ d, b, (List.append_assoc a d (x :: b)).symm, by simpa using hx, fun y hy => ?_⟩
  have hy := List.filter_eq_nil_iff.1 hb y hy
  rwa [Bool.not_eq_true', Bool.not_eq_false] at hy

/-- A placed frame is dropped, replaces a ROLL, finds room, or displaces a frame of a higher kind (R105 to R108). -/
theorem place_cases (l : LineController) (p : Payload) :
    l.place p = (l.dropping, some p) ∨
    (p.isRoll = true ∧ l.place p = ({ l with tx := replaceRoll p l.tx }, none)) ∨
    l.place p = ({ l with tx := insertTx (.fresh p) l.tx }, none) ∨
    ∃ a x b, l.tx = a ++ x :: b ∧ p.kind < x.payload.kind ∧
      l.place p = (({ l with tx := insertTx (.fresh p) (a ++ b) } : LineController).dropping, some x.payload) := by
  unfold LineController.place
  split
  · exact .inl rfl
  split
  · rename_i h
    exact .inr (.inl ⟨(Bool.and_eq_true_iff.1 h).1, rfl⟩)
  split
  · exact .inr (.inr (.inl rfl))
  unfold LineController.placeFull
  cases hx : lastWaiting l.tx with
  | none => exact .inl rfl
  | some x =>
    by_cases hlt : p.kind < x.payload.kind
    · obtain ⟨a, b, htx, hwait, hb⟩ := lastWaiting_eq_some hx
      refine .inr (.inr (.inr ⟨a, x, b, htx, hlt, ?_⟩))
      simp only [if_pos hlt, htx, eraseLast_split hwait hb]
    · exact .inl (if_neg hlt)

/-- The drop count after a frame left the queue, if one did (R107). -/
def LineController.counting (l : LineController) : Option Payload → LineController
  | none => l
  | some _ => l.dropping

/-- Placement reads the line state and the queue alone (R105 to R108). -/
theorem place_of_queue {l' : LineController} (hstate : l'.state = l.state) (htx : l'.tx = l.tx) (p : Payload) :
    l'.place p = ({ l'.counting (l.place p).2 with tx := (l.place p).1.tx }, (l.place p).2) := by
  cases l
  cases l'
  cases hstate
  cases htx
  simp only [LineController.place, LineController.placeFull]
  split
  · rfl
  split
  · rfl
  split
  · rfl
  split
  · split <;> rfl
  · rfl

/-- A frame of a kind above GIVE drops no GIVE. -/
theorem place_drops_no_give (hp : 1 < p.kind) {q : Payload} (h : (l.place p).2 = some q) : 1 < q.kind := by
  obtain he | ⟨-, he⟩ | he | ⟨a, x, b, -, hlt, he⟩ := place_cases l p <;> rw [he] at h
  · exact Option.some.inj h ▸ hp
  · exact nomatch h
  · exact nomatch h
  · exact Option.some.inj h ▸ Nat.lt_trans hp hlt

/-- The answer waits start with a GIVE alone (R142). -/
theorem told_of_not_give {u : SettlementUnit} {o : Option Payload} (h : ∀ q, o = some q → 1 < q.kind) : u.told o = u := by
  cases o with
  | none => rfl
  | some q =>
    have hnot : ∀ r : OutRecord, startWait q r = r := by
      intro r
      refine startWait_of_not_give ?_
      cases q with
      | give => exact absurd (h _ rfl) (Nat.lt_irrefl 1)
      | _ => rfl
    simp only [SettlementUnit.told, funext hnot, List.map_id']

/-- Frames that neither are placed nor leave the queue for the placed one are in it after as before. -/
theorem any_place {f : TxEntry → Bool} (hp : f (.fresh p) = false)
    (hlater : ∀ x : TxEntry, p.kind < x.payload.kind → f x = false)
    (hroll : ∀ x : TxEntry, x.payload.isRoll = true → f x = false) : (l.place p).1.tx.any f = l.tx.any f := by
  have hinsert : ∀ q, (insertTx (.fresh p) q).any f = q.any f := by
    intro q
    induction q with
    | nil => rw [insertTx, List.any_cons, hp, Bool.false_or]
    | cons x xs ih =>
      rw [insertTx]
      split
      · rw [List.any_cons, List.any_cons, ih]
      · rw [List.any_cons, hp, Bool.false_or]
  have hreplace : ∀ q, (replaceRoll p q).any f = q.any f := by
    intro q
    induction q with
    | nil => rfl
    | cons x xs ih =>
      rw [replaceRoll]
      split
      · rename_i h
        rw [List.any_cons, List.any_cons, hp, hroll x (Bool.and_eq_true_iff.1 h).1]
      · rw [List.any_cons, List.any_cons, ih]
  obtain he | ⟨-, he⟩ | he | ⟨a, x, b, htx, hlt, he⟩ := place_cases l p <;> rw [he]
  · rfl
  · exact hreplace _
  · exact hinsert _
  · rw [htx, List.any_append, List.any_cons, hlater x hlt, Bool.false_or, ← List.any_append]
    exact hinsert _

/-- A queued frame was queued before or is the placed one. -/
theorem mem_place {e : TxEntry} (h : e ∈ (l.place p).1.tx) : e ∈ l.tx ∨ e = .fresh p := by
  obtain he | ⟨-, he⟩ | he | ⟨a, x, b, htx, -, he⟩ := place_cases l p <;> rw [he] at h
  · exact .inl h
  · exact (mem_replaceRoll h).symm
  · exact (mem_insertTx.1 h).symm
  · rw [htx]
    refine (mem_insertTx.1 h).symm.imp_left fun hab => ?_
    exact (List.mem_append.1 hab).elim (List.mem_append_left _) fun hb => List.mem_append_right a (List.mem_cons_of_mem x hb)

/-! ### Frames placed one after another -/

/-- The line after frames are placed one after another. -/
def LineController.placing (l : LineController) (ps : List Payload) : LineController :=
  ps.foldl (fun l p => (l.place p).1) l

@[simp] theorem placing_nil (l : LineController) : l.placing [] = l := rfl

theorem placing_cons (l : LineController) (p : Payload) (ps : List Payload) :
    l.placing (p :: ps) = (l.place p).1.placing ps := rfl

theorem placing_append (l : LineController) (ps qs : List Payload) : l.placing (ps ++ qs) = (l.placing ps).placing qs :=
  List.foldl_append

theorem placing_concat (l : LineController) (ps : List Payload) (p : Payload) :
    l.placing (ps ++ [p]) = ((l.placing ps).place p).1 := placing_append l ps [p]

theorem place_frame (l : LineController) (p : Payload) :
    (l.place p).1 = { l with tx := (l.place p).1.tx, queueDrops := (l.place p).1.queueDrops } := by
  obtain he | ⟨-, he⟩ | he | ⟨a, x, b, -, -, he⟩ := place_cases l p <;> rw [he] <;> rfl

theorem placing_frame (l : LineController) (ps : List Payload) :
    l.placing ps = { l with tx := (l.placing ps).tx, queueDrops := (l.placing ps).queueDrops } := by
  induction ps generalizing l with
  | nil => rfl
  | cons p ps ih =>
    rw [placing_cons]
    refine (ih _).trans ?_
    rw [place_frame l p]

theorem placing_state (l : LineController) (ps : List Payload) : (l.placing ps).state = l.state := by rw [placing_frame]

theorem mem_placing {ps : List Payload} {e : TxEntry} (h : e ∈ (l.placing ps).tx) :
    e ∈ l.tx ∨ ∃ p ∈ ps, e = .fresh p := by
  induction ps generalizing l with
  | nil => exact .inl h
  | cons p ps ih =>
    obtain he | ⟨q, hq, he⟩ := ih h
    · exact (mem_place he).imp_right fun hp => ⟨p, List.mem_cons_self, hp⟩
    · exact .inr ⟨q, List.mem_cons_of_mem p hq, he⟩

/-- Placing frames above GIVE changes the line alone. -/
theorem place_foldl {ps : List Payload} (h : ∀ p ∈ ps, 1 < p.kind) (s : State) :
    ps.foldl (fun u p => u.place p) s = { s with line := s.line.placing ps } := by
  induction ps generalizing s with
  | nil => rfl
  | cons p ps ih =>
    obtain ⟨hp, hps⟩ := List.forall_mem_cons.1 h
    rw [List.foldl_cons, ih hps, place_line, told_of_not_give fun q => place_drops_no_give hp]
    rfl

/-! ### The state during a roll tick -/

/-- A roll tick after the frames ps are placed: of the rest, only the roll timer, the peer table and the balancer have
moved. -/
def State.ticked (s : State) (ps : List Payload) (timer : Timer) (peers : Vector PeerEntry 15) (bal : Balancer) : State :=
  { s with line := { s.line.placing ps with rollTimer := timer, peers := peers }, bal := bal }

section
variable {ps : List Payload} {timer : Timer} {peers : Vector PeerEntry 15} {bal : Balancer}

theorem ticked_place (hp : 1 < p.kind) :
    (s.ticked ps timer peers bal).place p = s.ticked (ps ++ [p]) timer peers bal := by
  have hplace := place_of_queue (l := s.line.placing ps) (l' := (s.ticked ps timer peers bal).line) rfl rfl p
  have hsame := place_of_queue (l := s.line.placing ps) (l' := s.line.placing ps) rfl rfl p
  have hdrop : ∀ q, ((s.ticked ps timer peers bal).line.place p).2 = some q → 1 < q.kind := fun q => place_drops_no_give hp
  have hconcat := (placing_concat s.line ps p).trans (congrArg Prod.fst hsame)
  rw [place_line, told_of_not_give hdrop, hplace]
  simp only [State.ticked, hconcat]
  cases ((s.line.placing ps).place p).2 <;> rfl

/-- The line controller's share (R112 to R114). -/
theorem formRoll_ticked {k : Station} (hk : s.ctl.config.station = some k) :
    (s.ticked ps timer peers bal).formRoll = s.ticked (ps ++ [.roll s.rollContent]) timer
      (peers.set k.slot { presence := .self, silence := 0, roll := some s.rollContent }) bal := by
  have hstation : (s.ticked ps timer peers bal).ctl.config.station = some k := hk
  have hself : (s.ticked ps timer peers bal).setSelf s.rollContent = s.ticked ps timer
      (peers.set k.slot { presence := .self, silence := 0, roll := some s.rollContent }) bal := by
    rw [State.setSelf, hstation]
    rfl
  rw [← ticked_place (p := .roll s.rollContent) (show 1 < 12 by decide), ← hself]
  rfl

/-- The start test as the balancer's share of a roll tick makes it (R123, R124, R128). -/
def State.starts (s : State) : Prop :=
  s.bal.caller = .idle ∧ s.ctl.state = .active ∧ s.standing.short = true ∧ s.bal.backoffWait ≤ 1 ∧
    s.spaceForEntry = true ∧ s.line.state = .up ∧ s.minTransfer ≤ s.target - s.acct.credit ∧
    ∃ (j : Station) (c : RollContent), (s.peer j).presence = .present ∧ (s.peer j).roll = some c ∧ c.state = .active ∧
      c.standing = .surplus ∧ c.canGive = true

/-- The peer table that tells of each peer what the state's own tells. -/
def State.agreesOnPeers (s : State) (peers : Vector PeerEntry 15) : Prop :=
  ∀ (j : Station) (c : RollContent), (peers[j.slot].presence = .present ∧ peers[j.slot].roll = some c) ↔
    ((s.peer j).presence = .present ∧ (s.peer j).roll = some c)

/-- The wait counted, before the start test (R128). -/
theorem mayCall_ticked (hpeers : s.agreesOnPeers peers) :
    (s.ticked ps timer peers { s.bal with backoffWait := s.bal.backoffWait - 1 }).mayCall = true ↔ s.starts := by
  have hstate : (s.ticked ps timer peers { s.bal with backoffWait := s.bal.backoffWait - 1 }).line.state = s.line.state :=
    placing_state s.line ps
  rw [mayCall_iff, hstate]
  refine and_congr_right fun _ => and_congr_right fun _ => and_congr_right fun _ => and_congr ?_ (and_congr_right fun _ =>
    and_congr_right fun _ => and_congr_right fun _ => exists_congr fun j => exists_congr fun c => ?_)
  · exact Nat.sub_eq_zero_iff_le
  · rw [← and_assoc, ← and_assoc (a := (s.peer j).presence = .present)]
    exact and_congr_left fun _ => hpeers j c

/-- The balancer's share when the start test passes (R124). -/
theorem balancerTick_calls (hpeers : s.agreesOnPeers peers) (h : s.starts) :
    (s.ticked ps timer peers s.bal).balancerTick =
      s.ticked (ps ++ [.call (BitVec.ofNat 32 (s.target - s.acct.credit))]) timer peers
        { s.bal with backoffWait := 0, caller := .calling, offers := [], offerWindow := .running 250 } := by
  have hwait : s.bal.backoffWait - 1 = 0 := Nat.sub_eq_zero_iff_le.2 h.2.2.2.1
  have hcall := startTest_calls ((mayCall_ticked (ps := ps) (timer := timer) hpeers).2 h)
  rw [hwait] at hcall
  rw [← ticked_place (p := .call _) (show 1 < 11 by decide), State.balancerTick]
  refine Eq.trans ?_ hcall
  rw [← hwait]
  rfl

/-- The balancer's share otherwise: the wait alone (R128). -/
theorem balancerTick_waits (hpeers : s.agreesOnPeers peers) (h : ¬ s.starts) :
    (s.ticked ps timer peers s.bal).balancerTick =
      s.ticked ps timer peers { s.bal with backoffWait := s.bal.backoffWait - 1 } :=
  startTest_waits fun hcall => h ((mayCall_ticked hpeers).1 hcall)

end

/-! ### The settlement unit's share -/

/-- A record whose receiver is asked after, when no QUERY of it waits (R154). -/
def State.queried (s : State) (r : OutRecord) : Bool :=
  s.ctl.state != .parked && r.state == .stranded && (s.peer r.receiver).presence == .present

def OutRecord.queryFrame (r : OutRecord) : Payload := .query (BitVec.ofNat 8 r.receiver.val) r.serial

/-- A QUERY of the record waits in a queue (R154). -/
def queryIn (r : OutRecord) (tx : List TxEntry) : Bool := tx.any fun e => !e.inProgress && e.payload == r.queryFrame

/-- A record that a roll tick queries (R154). -/
def State.asked (s : State) (r : OutRecord) : Bool := s.queried r && !queryIn r s.line.tx

theorem isQueryOf_eq (p : Payload) (r : OutRecord) : p.isQueryOf r.receiver r.serial = (p == r.queryFrame) := by
  have hbyte : (BitVec.ofNat 8 r.receiver.val).toNat = r.receiver.val := stationByte r.receiver
  cases p with
  | query d n =>
    rw [Bool.eq_iff_iff, Payload.isQueryOf, OutRecord.queryFrame, Bool.and_eq_true, beq_iff_eq, beq_iff_eq, beq_iff_eq,
      Payload.query.injEq, ← BitVec.toNat_inj (x := d), hbyte]
  | _ =>
    symm
    apply beq_eq_false_iff_ne.2
    nofun

/-- A QUERY tells its receiver. -/
theorem receiver_of_queryFrame {r x : OutRecord} (h : r.queryFrame = x.queryFrame) : r.receiver = x.receiver := by
  obtain ⟨hd, -⟩ := Payload.query.inj h
  have hnumber := congrArg BitVec.toNat hd
  rw [stationByte, stationByte] at hnumber
  exact Subtype.ext hnumber

theorem queryWaits_eq (s : State) (r : OutRecord) : s.queryWaits r = queryIn r s.line.tx := by
  simp only [State.queryWaits, queryIn, isQueryOf_eq, Bool.and_comm]

/-- A placed frame of QUERY's kind or a later one leaves the other QUERYs of the queue (R106, R107). -/
theorem queryIn_place {r : OutRecord} (hkind : 7 ≤ p.kind) (hp : p ≠ r.queryFrame) :
    queryIn r (l.place p).1.tx = queryIn r l.tx := by
  refine any_place ?_ (fun x hx => ?_) fun x hx => ?_
  · exact Bool.and_eq_false_iff.2 (.inr (beq_eq_false_iff_ne.2 hp))
  · refine Bool.and_eq_false_iff.2 (.inr (beq_eq_false_iff_ne.2 fun he => ?_))
    rw [he] at hx
    exact absurd hx (Nat.not_lt.2 hkind)
  · refine Bool.and_eq_false_iff.2 (.inr (beq_eq_false_iff_ne.2 fun he => ?_))
    rw [he] at hx
    exact nomatch hx

theorem queryIn_placing {r : OutRecord} {ps : List Payload} (h : ∀ p ∈ ps, 7 < p.kind) :
    queryIn r (l.placing ps).tx = queryIn r l.tx := by
  induction ps generalizing l with
  | nil => rfl
  | cons p ps ih =>
    obtain ⟨hp, hps⟩ := List.forall_mem_cons.1 h
    refine (ih hps).trans (queryIn_place (Nat.le_of_lt hp) fun he => ?_)
    rw [he] at hp
    exact absurd hp (Nat.lt_irrefl 7)

/-- The QUERYs of records with distinct receivers do not meet each other (R154). -/
theorem queryRecords_ticked {timer : Timer} {peers : Vector PeerEntry 15} {bal : Balancer}
    (hpresent : ∀ j : Station, peers[j.slot].presence = .present ↔ (s.peer j).presence = .present)
    (hparked : s.ctl.state ≠ .parked) (rs : List OutRecord) (ps : List Payload)
    (hdistinct : (rs.map (·.receiver)).Nodup)
    (hsame : ∀ r ∈ rs, queryIn r (s.line.placing ps).tx = queryIn r s.line.tx) :
    rs.foldl (fun t r => t.queryRecord r) (s.ticked ps timer peers bal) =
      s.ticked (ps ++ (rs.filter s.asked).map OutRecord.queryFrame) timer peers bal := by
  induction rs generalizing ps with
  | nil => rw [List.filter_nil, List.map_nil, List.append_nil]; rfl
  | cons r rs ih =>
    obtain ⟨hr, hrs⟩ := List.forall_mem_cons.1 hsame
    obtain ⟨hfirst, hrest⟩ := List.nodup_cons.1 hdistinct
    have hasked : (r.state = .stranded ∧ ((s.ticked ps timer peers bal).peer r.receiver).presence = .present ∧
        (s.ticked ps timer peers bal).queryWaits r = false) ↔ s.asked r = true := by
      have hwaits : (s.ticked ps timer peers bal).queryWaits r = queryIn r s.line.tx := (queryWaits_eq _ r).trans hr
      have hpeer : ((s.ticked ps timer peers bal).peer r.receiver).presence = .present ↔
          (s.peer r.receiver).presence = .present := hpresent r.receiver
      rw [hwaits, hpeer]
      simp [State.asked, State.queried, hparked, and_assoc]
    rw [List.foldl_cons, State.queryRecord]
    by_cases h : s.asked r = true
    · rw [if_pos (hasked.2 h), List.filter_cons_of_pos h, List.map_cons, List.append_cons]
      have hplace : (s.ticked ps timer peers bal).place (.query (.ofNat 8 r.receiver.val) r.serial) =
          s.ticked (ps ++ [r.queryFrame]) timer peers bal := ticked_place (p := r.queryFrame) (show 1 < 7 by decide)
      rw [hplace]
      refine ih (ps ++ [r.queryFrame]) hrest fun x hx => ?_
      rw [placing_concat, queryIn_place (p := r.queryFrame) (Nat.le_refl 7), hrs x hx]
      exact fun he => hfirst (List.mem_map.2 ⟨x, hx, (receiver_of_queryFrame he).symm⟩)
    · rw [if_neg (mt hasked.1 h), List.filter_cons_of_neg h]
      exact ih ps hrest hrs

/-- The settlement unit's share, before any other QUERY of the tick (R154). -/
theorem settlementTick_ticked {timer : Timer} {peers : Vector PeerEntry 15} {bal : Balancer} {ps : List Payload}
    (hpresent : ∀ j : Station, peers[j.slot].presence = .present ↔ (s.peer j).presence = .present)
    (hcom : s.ctl.state ≠ .unconfigured) (hdistinct : (s.settle.records.map (·.receiver)).Nodup)
    (hkind : ∀ p ∈ ps, 7 < p.kind) :
    (s.ticked ps timer peers bal).settlementTick =
      s.ticked (ps ++ (s.settle.records.filter s.asked).map OutRecord.queryFrame) timer peers bal := by
  by_cases hparked : s.ctl.state = .parked
  · have hnone : s.settle.records.filter s.asked = [] :=
      List.filter_eq_nil_iff.2 fun r _ => by simp [State.asked, State.queried, hparked]
    rw [hnone, List.map_nil, List.append_nil]
    refine if_neg fun h => ?_
    have h : s.ctl.state = .active ∨ s.ctl.state = .parking := h
    rw [hparked] at h
    exact h.elim nofun nofun
  · refine (if_pos ?_).trans (queryRecords_ticked hpresent hparked s.settle.records ps hdistinct fun r _ => queryIn_placing hkind)
    show s.ctl.state = .active ∨ s.ctl.state = .parking
    cases h : s.ctl.state with
    | active => exact .inl rfl
    | parking => exact .inr rfl
    | unconfigured => exact absurd h hcom
    | parked => exact absurd h hparked

/-! ### The shares in their order -/

/-- The frames of a roll tick in the order of its shares (R112). -/
def tickFrames (order : TickOrder) (roll : Payload) (calls queries : List Payload) : List Payload :=
  match order with
  | .rollBalancerSettlement => roll :: calls ++ queries
  | .rollSettlementBalancer => roll :: queries ++ calls
  | .balancerRollSettlement => calls ++ roll :: queries
  | .balancerSettlementRoll => calls ++ queries ++ [roll]
  | .settlementRollBalancer => queries ++ roll :: calls
  | .settlementBalancerRoll => queries ++ calls ++ [roll]

theorem mem_tickFrames {order : TickOrder} {roll p : Payload} {calls queries : List Payload} :
    p ∈ tickFrames order roll calls queries ↔ p = roll ∨ p ∈ calls ∨ p ∈ queries := by
  cases order <;> simp [tickFrames, or_left_comm, or_comm, or_assoc]

/-- The QUERYs of a roll tick, in list order (R154). -/
def State.queries (s : State) : List Payload := (s.settle.records.filter s.asked).map OutRecord.queryFrame

/-- The peer table of a roll tick: the self entry takes the announced values (R114). -/
def State.announced (s : State) (k : Station) : Vector PeerEntry 15 :=
  s.line.peers.set k.slot { presence := .self, silence := 0, roll := some s.rollContent }

theorem announced_self (k : Station) :
    (s.announced k)[k.slot] = { presence := .self, silence := 0, roll := some s.rollContent } :=
  Vector.getElem_set_self k.slot.isLt

theorem announced_other {j k : Station} (h : j ≠ k) : (s.announced k)[j.slot] = s.peer j := peer_set_ne h _

/-- The announced table tells of the peers what the former one told. -/
theorem announced_present {k : Station} (hself : (s.peer k).presence = .self) (j : Station) :
    (s.announced k)[j.slot].presence = .present ↔ (s.peer j).presence = .present := by
  by_cases h : j = k
  · subst h
    rw [announced_self, hself]
  · rw [announced_other h]

theorem announced_agrees {k : Station} (hself : (s.peer k).presence = .self) : s.agreesOnPeers (s.announced k) := by
  intro j c
  by_cases h : j = k
  · subst h
    rw [announced_self, hself]
    exact ⟨fun hp => (nomatch hp.1), fun hp => (nomatch hp.1)⟩
  · rw [announced_other h]

/-- A roll tick, whatever the order of its shares: the balancer's share adds calls and leaves bal (R112). -/
theorem rollTick_ticked (order : TickOrder) {k : Station} (hk : s.ctl.config.station = some k)
    (hself : (s.peer k).presence = .self) (hcom : s.ctl.state ≠ .unconfigured)
    (hdistinct : (s.settle.records.map (·.receiver)).Nodup) {calls : List Payload} {bal : Balancer}
    (hcalls : ∀ p ∈ calls, 7 < p.kind)
    (hbal : ∀ {ps timer peers}, s.agreesOnPeers peers →
      (s.ticked ps timer peers s.bal).balancerTick = s.ticked (ps ++ calls) timer peers bal) :
    s.rollTick order = s.ticked (tickFrames order (.roll s.rollContent) calls s.queries)
      (.running (1000 * s.ctl.config.rollPeriod.value)) (s.announced k) bal := by
  have start : s.restartRollTimer = s.ticked [] (.running (1000 * s.ctl.config.rollPeriod.value)) s.line.peers s.bal := rfl
  have roll : ∀ {ps timer b}, (s.ticked ps timer s.line.peers b).formRoll =
      s.ticked (ps ++ [.roll s.rollContent]) timer (s.announced k) b := formRoll_ticked hk
  have agrees : s.agreesOnPeers s.line.peers := fun _ _ => Iff.rfl
  have present : ∀ j : Station, s.line.peers[j.slot].presence = .present ↔ (s.peer j).presence = .present := fun _ => Iff.rfl
  have agrees' := announced_agrees hself
  have present' := announced_present hself
  have ask : ∀ {ps timer peers b}, (∀ j : Station, peers[j.slot].presence = .present ↔ (s.peer j).presence = .present) →
      (∀ p ∈ ps, p = .roll s.rollContent ∨ p ∈ calls) →
      (s.ticked ps timer peers b).settlementTick = s.ticked (ps ++ s.queries) timer peers b := by
    intro ps timer peers b hpeers hps
    refine settlementTick_ticked hpeers hcom hdistinct fun p hp => ?_
    obtain rfl | hcall := hps p hp
    · exact show 7 < 12 by decide
    · exact hcalls p hcall
  cases order with
  | rollBalancerSettlement =>
    show s.restartRollTimer.formRoll.balancerTick.settlementTick = _
    rw [start, roll, hbal agrees', ask present' (by simp)]
    rfl
  | rollSettlementBalancer =>
    show s.restartRollTimer.formRoll.settlementTick.balancerTick = _
    rw [start, roll, ask present' (by simp), hbal agrees']
    rfl
  | balancerRollSettlement =>
    show s.restartRollTimer.balancerTick.formRoll.settlementTick = _
    rw [start, hbal agrees, roll, ask present' (by simp [or_comm]), List.append_assoc]
    rfl
  | balancerSettlementRoll =>
    show s.restartRollTimer.balancerTick.settlementTick.formRoll = _
    rw [start, hbal agrees, ask present (by simp +contextual), roll]
    rfl
  | settlementRollBalancer =>
    show s.restartRollTimer.settlementTick.formRoll.balancerTick = _
    rw [start, ask present (by simp), roll, hbal agrees', List.append_assoc]
    rfl
  | settlementBalancerRoll =>
    show s.restartRollTimer.settlementTick.balancerTick.formRoll = _
    rw [start, ask present (by simp), hbal agrees, roll]
    rfl

/-! ### An empty queue, and the line ALONE -/

/-- The line with these frames queued, none of them attempted. -/
def LineController.queueing (l : LineController) (ps : List Payload) : LineController := { l with tx := ps.map .fresh }

/-- With room a frame stands behind those of equal or lower kind (R106). -/
theorem place_queueing (hup : l.state = .up) {a b : List Payload} (hroll : p.isRoll = true → ∀ x ∈ a ++ b, x.isRoll = false)
    (hroom : (a ++ b).length < 8) (ha : ∀ x ∈ a, x.kind ≤ p.kind) (hb : ∀ x ∈ b, p.kind < x.kind) :
    ((l.queueing (a ++ b)).place p).1 = l.queueing (a ++ p :: b) := by
  have hinsert : ∀ a : List Payload, (∀ x ∈ a, x.kind ≤ p.kind) →
      insertTx (.fresh p) ((a ++ b).map .fresh) = (a ++ p :: b).map .fresh := by
    intro a
    induction a with
    | nil =>
      intro _
      cases b with
      | nil => rfl
      | cons x xs => exact if_neg (Nat.not_le.2 (hb x List.mem_cons_self))
    | cons x xs ih =>
      intro ha
      obtain ⟨hx, hxs⟩ := List.forall_mem_cons.1 ha
      exact (if_pos hx).trans (congrArg _ (ih hxs))
  have hnoRoll : ¬ (p.isRoll && ((a ++ b).map TxEntry.fresh).any (fun e => e.payload.isRoll && !e.inProgress)) = true := by
    rw [Bool.and_eq_true, List.any_map, List.any_eq_true]
    rintro ⟨hp, x, hx, hr⟩
    exact Bool.false_ne_true ((hroll hp x hx).symm.trans (Bool.and_eq_true_iff.1 hr).1)
  have hlength : ((a ++ b).map TxEntry.fresh).length < 8 := by rw [List.length_map]; exact hroom
  have hstate : ¬ ((l.queueing (a ++ b)).state = .alone ∧ p.isRoll = false) := fun h => (nomatch hup.symm.trans h.1)
  rw [LineController.place, if_neg hstate, if_neg (by exact hnoRoll), if_pos (by exact hlength)]
  exact congrArg (fun tx => { l with tx := tx }) (hinsert a ha)

/-- Frames of one kind that are no ROLLs, each behind the one before. -/
theorem placing_queueing (hup : l.state = .up) {n : Nat} (hn : n < 12) {a b ps : List Payload} (hps : ∀ p ∈ ps, p.kind = n)
    (hroom : a.length + b.length + ps.length ≤ 8) (ha : ∀ x ∈ a, x.kind ≤ n) (hb : ∀ x ∈ b, n < x.kind) :
    (l.queueing (a ++ b)).placing ps = l.queueing (a ++ ps ++ b) := by
  induction ps generalizing a with
  | nil => rw [List.append_nil]; rfl
  | cons p ps ih =>
    obtain ⟨hp, hps⟩ := List.forall_mem_cons.1 hps
    rw [List.length_cons] at hroom
    have hnoRoll : p.isRoll = true → ∀ x ∈ a ++ b, x.isRoll = false := fun h => by
      have := isRoll_kind h
      omega
    rw [placing_cons, place_queueing hup hnoRoll (by rw [List.length_append]; omega) (by rw [hp]; exact ha)
      (by rw [hp]; exact hb), List.append_cons, ih hps, List.append_cons a p ps]
    · rw [List.length_append, List.length_singleton]
      omega
    · intro x hx
      obtain hx | hx := List.mem_append.1 hx
      · exact ha x hx
      · rw [List.mem_singleton.1 hx]
        exact Nat.le_of_eq hp

/-- On an empty queue the frames of a tick stand by kind, whatever the order of the shares (R106). -/
theorem placing_tickFrames_empty (order : TickOrder) (hup : l.state = .up) (htx : l.tx = []) {c : RollContent}
    {calls queries : List Payload} (hcalls : ∀ p ∈ calls, p.kind = 11) (hqueries : ∀ p ∈ queries, p.kind = 7)
    (hroom : calls.length + queries.length < 8) :
    l.placing (tickFrames order (.roll c) calls queries) = l.queueing (queries ++ calls ++ [.roll c]) := by
  have hstart : l = l.queueing [] := by
    rw [LineController.queueing, List.map_nil, ← htx]
  have ask : ∀ b : List Payload, (∀ x ∈ b, 7 < x.kind) → b.length ≤ calls.length + 1 →
      (l.queueing b).placing queries = l.queueing (queries ++ b) := fun b hb hlen =>
    placing_queueing (a := []) hup (by decide) hqueries (by rw [List.length_nil]; omega) (List.forall_mem_nil _) hb
  have call : ∀ a b : List Payload, (∀ x ∈ a, x.kind ≤ 11) → a.length ≤ queries.length → (∀ x ∈ b, 11 < x.kind) →
      b.length ≤ 1 → (l.queueing (a ++ b)).placing calls = l.queueing (a ++ calls ++ b) := fun a b ha hla hb hlb =>
    placing_queueing hup (by decide) hcalls (by omega) ha hb
  have roll : ∀ a : List Payload, (∀ x ∈ a, x.kind ≤ 11) → a.length < 8 →
      (l.queueing a).placing [.roll c] = l.queueing (a ++ [.roll c]) := by
    intro a ha hlen
    have hnoRoll : ∀ x ∈ a, x.isRoll = false := fun x hx => by
      refine Bool.eq_false_iff.2 fun hr => ?_
      have := isRoll_kind hr
      have := ha x hx
      omega
    have h := place_queueing (l := l) (p := .roll c) (a := a) (b := []) hup (fun _ => by rw [List.append_nil]; exact hnoRoll)
      (by rw [List.append_nil]; exact hlen) (fun x _ => kind_le x) (List.forall_mem_nil _)
    rw [List.append_nil] at h
    exact h
  have hroll : ∀ x ∈ [Payload.roll c], 11 < x.kind := by
    rintro x hx
    rw [List.mem_singleton.1 hx]
    exact show 11 < 12 by decide
  have hcalls' : ∀ x ∈ calls, x.kind ≤ 11 := fun x hx => Nat.le_of_eq (hcalls x hx)
  have hqueries' : ∀ x ∈ queries, x.kind ≤ 11 := fun x hx => by rw [hqueries x hx]; decide
  have hboth : ∀ x ∈ queries ++ calls, x.kind ≤ 11 := List.forall_mem_append.2 ⟨hqueries', hcalls'⟩
  have hlater : ∀ x ∈ calls, 7 < x.kind := fun x hx => by rw [hcalls x hx]; decide
  have hrest : ∀ x ∈ calls ++ [.roll c], 7 < x.kind := List.forall_mem_append.2
    ⟨hlater, fun x hx => Nat.lt_trans (by decide) (hroll x hx)⟩
  have first : (l.queueing []).placing calls = l.queueing calls := by
    simpa using call [] [] (List.forall_mem_nil _) (by simp) (List.forall_mem_nil _) (by simp)
  have behind : (l.queueing queries).placing calls = l.queueing (queries ++ calls) := by
    simpa using call queries [] hqueries' (Nat.le_refl _) (List.forall_mem_nil _) (by simp)
  have asked : (l.queueing []).placing queries = l.queueing queries := by
    simpa using ask [] (List.forall_mem_nil _) (by simp)
  have before : (l.queueing [.roll c]).placing calls = l.queueing (calls ++ [.roll c]) :=
    call [] [.roll c] (List.forall_mem_nil _) (by simp) hroll (Nat.le_refl 1)
  have alone : (l.queueing []).placing [.roll c] = l.queueing [.roll c] := roll [] (List.forall_mem_nil _) (by decide)
  refine (congrArg (fun l' : LineController => l'.placing (tickFrames order (.roll c) calls queries)) hstart).trans ?_
  cases order with
  | rollBalancerSettlement =>
    show (l.queueing []).placing ([.roll c] ++ calls ++ queries) = _
    rw [placing_append, placing_append, alone, before, ask _ hrest (by simp), List.append_assoc]
  | rollSettlementBalancer =>
    show (l.queueing []).placing ([.roll c] ++ queries ++ calls) = _
    rw [placing_append, placing_append, alone, ask [.roll c] (by simp [hrest]) (by simp),
      call queries [.roll c] hqueries' (by simp) hroll (by simp)]
  | balancerRollSettlement =>
    show (l.queueing []).placing (calls ++ ([.roll c] ++ queries)) = _
    rw [placing_append, placing_append, first, roll calls hcalls' (by omega), ask _ hrest (by simp), List.append_assoc]
  | balancerSettlementRoll =>
    show (l.queueing []).placing (calls ++ queries ++ [.roll c]) = _
    rw [placing_append, placing_append, first, ask calls hlater (by simp), roll _ hboth (by simp; omega)]
  | settlementRollBalancer =>
    show (l.queueing []).placing (queries ++ ([.roll c] ++ calls)) = _
    rw [placing_append, placing_append, asked, roll queries hqueries' (by omega),
      call queries [.roll c] hqueries' (by simp) hroll (by simp)]
  | settlementBalancerRoll =>
    show (l.queueing []).placing (queries ++ calls ++ [.roll c]) = _
    rw [placing_append, placing_append, asked, behind, roll _ hboth (by simp; omega)]

/-- While ALONE every frame but a ROLL is dropped and counted (R105). -/
theorem placing_alone (halone : l.state = .alone) (hdrops : l.queueDrops ≤ 65535) {ps : List Payload}
    (hps : ∀ p ∈ ps, p.isRoll = false) :
    l.placing ps = { l with queueDrops := min (l.queueDrops + ps.length) 65535 } := by
  induction ps generalizing l with
  | nil =>
    have hsame : min (l.queueDrops + ([] : List Payload).length) 65535 = l.queueDrops := Nat.min_eq_left hdrops
    rw [hsame, placing_nil]
  | cons p ps ih =>
    obtain ⟨hp, hps⟩ := List.forall_mem_cons.1 hps
    have hplace : (l.place p).1 = l.dropping := congrArg Prod.fst (if_pos ⟨halone, hp⟩)
    have hsum : min (min (l.queueDrops + 1) 65535 + ps.length) 65535 = min (l.queueDrops + (p :: ps).length) 65535 := by
      rw [List.length_cons]
      omega
    rw [placing_cons, hplace, ih (l := l.dropping) halone (Nat.min_le_right _ _) hps, ← hsum]
    rfl

/-- While ALONE a tick places its ROLL, and drops and counts its QUERYs, in either order (R105, R107). -/
theorem placing_tickFrames_alone (order : TickOrder) (halone : l.state = .alone) (hdrops : l.queueDrops ≤ 65535)
    {roll : Payload} {queries : List Payload} (hqueries : ∀ p ∈ queries, p.isRoll = false) :
    (l.placing (tickFrames order roll [] queries)).tx = (l.place roll).1.tx ∧
    (l.placing (tickFrames order roll [] queries)).queueDrops =
      min ((l.place roll).1.queueDrops + queries.length) 65535 := by
  have hplace := place_of_queue (l := l) (l' := l) rfl rfl roll
  have hframes : tickFrames order roll [] queries = roll :: queries ∨
      tickFrames order roll [] queries = queries ++ [roll] := by
    cases order <;> simp [tickFrames]
  obtain h | h := hframes <;> rw [h]
  · have hstate : (l.place roll).1.state = .alone := by rw [place_frame]; exact halone
    have hcount : (l.place roll).1.queueDrops ≤ 65535 := by
      rw [hplace]
      cases (l.place roll).2 with
      | none => exact hdrops
      | some _ => exact Nat.min_le_right _ _
    rw [placing_cons, placing_alone hstate hcount hqueries]
    exact ⟨rfl, rfl⟩
  · rw [placing_concat, placing_alone halone hdrops hqueries]
    have hlast := place_of_queue (l := l) (l' := { l with queueDrops := min (l.queueDrops + queries.length) 65535 }) rfl rfl
      roll
    refine ⟨congrArg (fun q => q.1.tx) hlast, (congrArg (fun q => q.1.queueDrops) hlast).trans ?_⟩
    have hself := congrArg (fun q => q.1.queueDrops) hplace
    refine Eq.trans ?_ (congrArg (fun n => min (n + queries.length) 65535) hself).symm
    cases (l.place roll).2 with
    | none => rfl
    | some _ =>
      show min (min (l.queueDrops + queries.length) 65535 + 1) 65535 =
        min (min (l.queueDrops + 1) 65535 + queries.length) 65535
      omega

/-! ### The obligation -/

/-- The CALL of a started call (R124). -/
def State.callFrame (s : State) : Payload := .call (BitVec.ofNat 32 (s.target - s.acct.credit))

/-- The balancer's share as the frames it places and the balancer it leaves (R123, R124, R128). -/
theorem exists_balancerShare (s : State) : ∃ (calls : List Payload) (bal : Balancer),
    (∀ p ∈ calls, p = s.callFrame) ∧ calls.length ≤ 1 ∧
    (s.starts → calls = [s.callFrame] ∧ bal = { s.bal with
      backoffWait := 0, caller := .calling, offers := [], offerWindow := .running 250 }) ∧
    (¬ s.starts → calls = [] ∧ bal = { s.bal with backoffWait := s.bal.backoffWait - 1 }) ∧
    ∀ {ps timer peers}, s.agreesOnPeers peers →
      (s.ticked ps timer peers s.bal).balancerTick = s.ticked (ps ++ calls) timer peers bal := by
  by_cases h : s.starts
  · exact ⟨[s.callFrame], _, by simp, Nat.le_refl 1, fun _ => ⟨rfl, rfl⟩, fun hn => absurd h hn,
      fun hpeers => balancerTick_calls hpeers h⟩
  · refine ⟨[], _, List.forall_mem_nil _, Nat.zero_le 1, fun hs => absurd hs h, fun _ => ⟨rfl, rfl⟩, fun hpeers => ?_⟩
    rw [List.append_nil]
    exact balancerTick_waits hpeers h

theorem asked_of_empty (htx : s.line.tx = []) : s.asked = s.queried := by
  funext r
  rw [State.asked, htx]
  exact Bool.and_true _

/-- Settles O43: a tick is its frames placed one after another beside the timer, the self entry and the balancer. -/
theorem rollTickAnnouncesAndPaces : Obligations.RollTickAnnouncesAndPaces := by
  unfold Obligations.RollTickAnnouncesAndPaces
  intro order k s hon hcom hk hself hdistinct roll starts queried query need call asked shares placed
  obtain ⟨calls, bal, hcall, hone, hstarts, hwaits, hbal⟩ := exists_balancerShare s
  have hcalls : ∀ p ∈ calls, p.kind = 11 := fun p hp => by rw [hcall p hp]; rfl
  have htick := rollTick_ticked order hk hself hcom hdistinct (fun p hp => by rw [hcalls p hp]; decide) hbal
  have hqueries : ∀ p ∈ s.queries, p.kind = 7 := fun p hp => by
    obtain ⟨r, -, rfl⟩ := List.mem_map.1 hp
    rfl
  let frames := tickFrames order (.roll s.rollContent) calls s.queries
  have hshares : ∀ cs, shares cs = tickFrames order (.roll s.rollContent) cs s.queries := fun cs => by cases order <;> rfl
  have hplaced : (placed frames).line = s.line.placing frames := by
    refine congrArg State.line (place_foldl (fun p hp => ?_) s)
    obtain rfl | hp | hp := mem_tickFrames.1 hp
    · exact show 1 < 12 by decide
    · rw [hcalls p hp]; decide
    · rw [hqueries p hp]; decide
  refine ⟨_, congrArg Host.Outcome.next ((if_pos (active_of_on hon hcom)).trans htick), rfl, announced_self k,
    fun j hj => announced_other hj, fun h => (hstarts h).2, fun h => (hwaits h).2, fun hup htx hroom => ?_, fun e he => ?_,
    fun h => ?_, fun h => ?_, fun halone hdrops => ?_, ?_⟩
  · have hlength : s.queries.length ≤ 4 := by
      rw [State.queries, List.length_map]
      exact Nat.le_trans (List.length_filter_le _ _) hroom
    have hline : s.line.placing frames = _ := placing_tickFrames_empty order hup htx hcalls hqueries (by omega)
    have hfront : s.queries.map TxEntry.fresh = (s.settle.records.filter queried).map query := by
      rw [State.queries, asked_of_empty htx, List.map_map]
      rfl
    refine ⟨(congrArg LineController.queueDrops hline).trans rfl, fun h => ?_, fun h => ?_⟩ <;>
      refine (congrArg LineController.tx hline).trans ?_
    · rw [(hstarts h).1, ← hfront, LineController.queueing, List.map_append, List.map_append, List.append_assoc]
      rfl
    · rw [(hwaits h).1, ← hfront, LineController.queueing, List.append_nil, List.map_append]
      rfl
  · obtain he | ⟨p, hp, rfl⟩ := mem_placing (l := s.line) (ps := frames) he
    · exact .inl he
    obtain rfl | hp | hp := mem_tickFrames.1 hp
    · exact .inr (.inl rfl)
    · have hstart : s.starts := by
        refine Classical.byContradiction fun h => ?_
        rw [(hwaits h).1] at hp
        exact nomatch hp
      exact .inr (.inr (.inl ⟨hstart, congrArg TxEntry.fresh (hcall p hp)⟩))
    · obtain ⟨r, hr, rfl⟩ := List.mem_map.1 hp
      obtain ⟨hr, hasked⟩ := List.mem_filter.1 hr
      exact .inr (.inr (.inr ⟨r, hr, (Bool.and_eq_true_iff.1 hasked).1, rfl⟩))
  · rw [hshares, ← show calls = [.call need] from (hstarts h).1, hplaced]
    exact ⟨rfl, rfl⟩
  · rw [hshares, ← show calls = [] from (hwaits h).1, hplaced]
    exact ⟨rfl, rfl⟩
  · have hnot : ¬ s.starts := fun ⟨_, _, _, _, _, hup, _⟩ => (nomatch hup.symm.trans halone)
    have hroll : (s.place (.roll roll)).line = (s.line.place (.roll s.rollContent)).1 := congrArg State.line (place_line _ s)
    have hlength : (s.settle.records.filter asked).length = s.queries.length := (List.length_map _).symm
    have hline := placing_tickFrames_alone order halone hdrops (roll := .roll s.rollContent) (queries := s.queries)
      fun p hp => by
        obtain ⟨r, -, rfl⟩ := List.mem_map.1 hp
        rfl
    rw [← (hwaits hnot).1, ← hroll, ← hlength] at hline
    exact hline
  · show { s with line := { s.line.placing frames with
        rollTimer := s.line.rollTimer, peers := s.line.peers, tx := s.line.tx, queueDrops := s.line.queueDrops } } = s
    rw [placing_frame]

end Sys2Proof.Machine
end
